-- ==== Sys2Proof/Word.lean ====
section
/-! DEFINITION. The word types of the block: the counter width `W` of rule R5 (decision D3) and the
byte of the duty, amplitude and table values (R20). -/

namespace Sys2Proof

/-- The width in bits of every counter register (R5, D3). -/
abbrev W : Nat := 16

/-- A counter register: `W` = 16 bits (R20). -/
abbrev Word := BitVec 16

/-- A duty, an amplitude, a table entry or a stimulus word: 8 bits (R20, R60, R84). -/
abbrev Byte := BitVec 8

/-- `2^W - 1`, the value at which every counter saturates (R7, D3). -/
abbrev wordMax : Nat := 65535

/-- `MOTOR_MAX`, the largest motor duty, fixed at 255 (R5). -/
abbrev motorMax : Nat := 255

end Sys2Proof
end

