-- ==== Sys2Proof/Config.lean ====
section
/-! DEFINITION. The configuration `cfg` of rule R5 and what the spec leaves open: the device's own
configuration (D34), the idle loop's test (D35), and the free value of an incremented fade counter
(log 7). -/

namespace Sys2Proof

/-- `cfg` (R5): the hand-tuned constants and the three sample tables. `motorStart` and the table bytes are
8 bits wide, the ranges R5 and R60 give them (log 6); every other constant is an unbounded natural number,
as the rules are total for every `cfg` (R6). -/
structure Config where
  /-- `MOTOR_START`: the duty the ramp jumps to on the first tick of a run. -/
  motorStart : Byte
  /-- `N1`: ticks per +1 step while starting. -/
  n1 : Nat
  /-- `N2`: ticks per -1 step while stopping. -/
  n2 : Nat
  /-- `T_STARTED`: the `sound_count` at which Starting ends, and the rewind's target. -/
  tStarted : Nat
  /-- `T_STOPPED`: the `sound_count` at which Stopping ends, and the guard of the stopping press. -/
  tStopped : Nat
  /-- `R1_LO`: the first bell window starts here. -/
  r1Lo : Nat
  /-- `R1_HI`: the first count after the first bell window. -/
  r1Hi : Nat
  /-- `W_LO`: the whistle window starts here. -/
  wLo : Nat
  /-- `W_HI`: the first count after the whistle window. -/
  wHi : Nat
  /-- `R2_LO`: the second bell window starts here. -/
  r2Lo : Nat
  /-- `R2_HI`: the first count after the second bell window, where the rewind acts. -/
  r2Hi : Nat
  /-- `DELAY_MAX`: `MAX` of the Starting pause. -/
  delayMax : Nat
  /-- `DELAY_MIN`: the Running pause and the base of the Stopping pause. -/
  delayMin : Nat
  /-- `DELAY_INC`: the pause change per pass. -/
  delayInc : Nat
  /-- `TICKS_PER_WINDOW`: ticks in the sensor window. -/
  ticksPerWindow : Nat
  /-- `SETTLE`: the settle delay of the debounce; timing only, no rule reads it. -/
  settle : Nat
  /-- `ENGINE`: the engine table. -/
  engine : List Byte
  /-- `BELL`: the bell table. -/
  bell : List Byte
  /-- `WHISTLE`: the whistle table. -/
  whistle : List Byte
deriving DecidableEq, Repr, Inhabited

/-- The device's own configuration, which no source gives (R5, D34, N1, N2, N3). No body: nothing can be
proved of its values (log 1). -/
opaque Config.device : Config

/-- The value of the `fade` register after an increment of 255, which the spec does not state (log 7):
the argument numbers the draws. No body. -/
opaque Config.freeFade : Nat → Byte

/-- `IdleActive(event)` (D35, N18): what the external idle loop treats as active. Open, and used by no
rule (log 13). No body. -/
opaque Config.idleActive : BitVec 3 → Bool

end Sys2Proof
end

