-- ==== Sys2Proof/Syntax.lean ====
section
/-! DEFINITION. The enumerations of the spec (events R80, phases R81, tables R82), the operations with
their pseudo-operations (one constructor per row of spec/opcode_table.json), the names of refused
words (R90), and the lines of a stimulus program (R93, R94). -/

namespace Sys2Proof

/-- The six Event values, in the source's order (R80). -/
inductive Event where
  | none
  | sensorMissing
  | button1Pressed
  | button1Released
  | button2Pressed
  | button2Released
deriving DecidableEq, Repr

/-- The six phases, in the source's order (R81). A phase is never stored (R34). -/
inductive Phase where
  | none
  | starting
  | running
  | stopping
  | ringing
  | whistling
deriving DecidableEq, Repr

/-- The ids of the three sample tables (R82). -/
inductive TableId where
  | engine
  | bell
  | whistle
deriving DecidableEq, Repr

/-- The operations (R9, R85 to R88) and the pseudo-operations of R94: one constructor per row of
spec/opcode_table.json. The operands are truth values (R89). -/
inductive Instr where
  /-- `IDLE` (R85, R201). -/
  | idle
  /-- `TICK s` (R86, R131); `s` is the sensor level sampled at this tick. -/
  | tick (s : Bool)
  /-- `PINCHG b1_fall, b1_hold, b2_fall, b2_hold` (R87, R112). -/
  | pinchg (b1Fall b1Hold b2Fall b2Hold : Bool)
  /-- `RESET` (R88, R200). -/
  | reset
  /-- `PRESS1`, that is `PINCHG 1,1,0,0` (R94). -/
  | press1
  /-- `BOUNCE1`, that is `PINCHG 1,0,0,0` (R94). -/
  | bounce1
  /-- `PRESS2`, that is `PINCHG 0,0,1,1` (R94). -/
  | press2
  /-- `BOUNCE2`, that is `PINCHG 0,0,1,0` (R94). -/
  | bounce2
  /-- `PRESS12`, that is `PINCHG 1,1,1,1` (R94). -/
  | press12
  /-- `OTHER`, that is `PINCHG 0,0,0,0` (R94). -/
  | other
  /-- `RELEASE2`, the same word as `OTHER` (R94). -/
  | release2
deriving DecidableEq, Repr

/-- A line of a stimulus program (R93): one operation, or the repetition `TICKS n, s` (R94). -/
inductive Line where
  | op (i : Instr)
  | ticks (n : Nat) (s : Bool)
deriving DecidableEq, Repr

/-- Why a stimulus word is refused: the name of the reserved range (R90), or that there is no word. -/
inductive DecodeError where
  /-- 0x01 to 0x3F: `IDLE` with bits 5:0 nonzero. -/
  | reservedIdle
  /-- 0x42 to 0x7F: `TICK` with bits 5:1 nonzero. -/
  | reservedTick
  /-- 0x90 to 0xBF: `PINCHG` with bits 5:4 nonzero. -/
  | reservedPinchg
  /-- 0xC1 to 0xFF: `RESET` with bits 5:0 nonzero. -/
  | reservedReset
  /-- No byte to decode. -/
  | noWord
deriving DecidableEq, Repr

end Sys2Proof
end

