-- ==== Sys2Proof/Machine/State.lean ====
section
/-! DEFINITION. The state of the block: the thirteen registers of rule R20, and three fields of the
model's own (the configuration, the stimulus words still to be performed, the number of free values
drawn). The faults and refusals of a step, and the state after reset (R43, R200, R240). -/

namespace Sys2Proof.Machine

/-- Why the machine stops with a fault. -/
inductive Fault where
  /-- The playback engine would read a table at or beyond its length. Raised by `memRead` answering
  nothing in `execTick`; R62 says no rule reads there, and indeed no state reaches it. Safe. -/
  | tableReadBeyondEnd
deriving DecidableEq, Repr

/-- Why a step has no meaning. -/
inductive Refusal where
  /-- An instruction without a meaning, refused by its mnemonic in `exec`. No arm uses it. Safe. -/
  | notModelled (mnemonic : String)
  /-- The next stimulus word is reserved (R90, D28): it spells no operation and gives no step. Raised by
  `fetch`. Safe: the spec asks for it. -/
  | reservedWord (why : DecodeError)
  /-- No stimulus word is left: the run has ended with the last line of its program (R249). Raised by
  `fetch`. Safe: the model stops where the block would wait for its next interrupt (log 2). -/
  | noStimulus
deriving DecidableEq, Repr

/-- The thirteen registers of R20, then the model's own fields. -/
structure State where
  /-- No. 0, `event` (R21), coded as R80. -/
  event : BitVec 3
  /-- No. 1, `sensor_en` (R22). -/
  sensorEn : Bool
  /-- No. 2, `motor_duty` (R23). -/
  motorDuty : Byte
  /-- No. 3, `ramp_count` (R24). -/
  rampCount : Word
  /-- No. 4, `sound_count` (R25). -/
  soundCount : Word
  /-- No. 5, `idx` (R26). -/
  idx : Word
  /-- No. 6, `fade` (R27). -/
  fade : Byte
  /-- No. 7, `delay` (R28). -/
  delay : Word
  /-- No. 8, `amp` (R29). -/
  amp : Byte
  /-- No. 9, `sensor_count` (R30). -/
  sensorCount : Word
  /-- No. 10, `window_count` (R31). -/
  windowCount : Word
  /-- No. 11, the output register `MOTOR_PWM` (R32). -/
  motorPwm : Byte
  /-- No. 12, the output register `AUDIO_PWM` (R33). -/
  audioPwm : Byte
  /-- The model's own field: the configuration, a parameter of the step (R20) that no operation changes
  (R70, log 1). -/
  cfg : Config
  /-- The model's own field: the stimulus words not yet performed, next first (R84, R93, log 2). -/
  stimuli : List Byte
  /-- The model's own field: how many free values have been drawn (log 7). -/
  freeCount : Nat
deriving DecidableEq, Repr

/-- The state right after reset (R43, R200, R240): every register zero, `event` None. The configuration
is the device's, of which nothing is known (log 1); no stimulus is waiting (log 2); no free value has
been drawn (log 7, DESIGN CHOICE). -/
def State.reset : State where
  event := 0#3
  sensorEn := false
  motorDuty := 0#8
  rampCount := 0#16
  soundCount := 0#16
  idx := 0#16
  fade := 0#8
  delay := 0#16
  amp := 0#8
  sensorCount := 0#16
  windowCount := 0#16
  motorPwm := 0#8
  audioPwm := 0#8
  cfg := Config.device
  stimuli := []
  freeCount := 0

/-- The names of the thirteen registers, in the order of R20. -/
inductive Reg where
  | event
  | sensorEn
  | motorDuty
  | rampCount
  | soundCount
  | idx
  | fade
  | delay
  | amp
  | sensorCount
  | windowCount
  | motorPwm
  | audioPwm
deriving DecidableEq, Repr

/-- The output ports of R46 as the environment sees them. -/
structure Ports where
  /-- `MOTOR_PWM[7:0]`. -/
  motorPwm : Byte
  /-- `AUDIO_PWM[7:0]`. -/
  audioPwm : Byte
  /-- `SENSOR_EN`. -/
  sensorEn : Bool
  /-- `EVENT[2:0]`. -/
  event : BitVec 3
deriving DecidableEq, Repr

/-- What a run shows for one operation (R95): the output pair after a `TICK`, and the ports `EVENT` and
`SENSOR_EN` after every operation. -/
structure Observation where
  /-- (`MOTOR_PWM`, `AUDIO_PWM`) after a `TICK`; nothing after another operation. -/
  outputs : Option (Byte × Byte)
  /-- Port `EVENT`. -/
  event : BitVec 3
  /-- Port `SENSOR_EN`. -/
  sensorEn : Bool
deriving DecidableEq, Repr

end Sys2Proof.Machine
end

