-- ==== Sys2Proof/Machine/Flags.lean ====
section
/-! DEFINITION. The block has no condition codes; its one 1-bit state is `sensor_en` (R38), set and
cleared as a side effect of `PINCHG` (R22, R123, R204). -/

namespace Sys2Proof.Machine

/-- `sensor_en <- 1` (R113). -/
def setSensorEn (s : State) : State := { s with sensorEn := true }

/-- `sensor_en <- 0` (R114). -/
def clearSensorEn (s : State) : State := { s with sensorEn := false }

end Sys2Proof.Machine
end

