-- ==== Sys2Proof/WellFormed.lean ====
section
/-! DEFINITION. Well-formedness: `WF(cfg)` of rule R6, check by check; which instructions are operations
of the block rather than assembler spellings (R9, R94); the canonical spelling of `PINCHG` (R91). -/

namespace Sys2Proof

/-- R6 (a). -/
abbrev Config.wfStart (c : Config) : Prop := 1 ≤ c.motorStart.toNat ∧ c.motorStart.toNat ≤ 255

/-- R6 (b). -/
abbrev Config.wfRamp (c : Config) : Prop := 1 ≤ c.n2 ∧ c.n2 < c.n1 ∧ c.n1 ≤ wordMax

/-- R6 (c). -/
abbrev Config.wfThresholds (c : Config) : Prop :=
  1 ≤ c.tStarted ∧ 1 ≤ c.tStopped ∧ c.tStopped ≤ wordMax

/-- R6 (d). -/
abbrev Config.wfWindows (c : Config) : Prop :=
  (c.tStarted ≤ c.r1Lo ∧ c.r1Lo < c.r1Hi) ∧
  (c.tStarted ≤ c.wLo ∧ c.wLo < c.wHi) ∧
  (c.tStarted ≤ c.r2Lo ∧ c.r2Lo < c.r2Hi)

/-- R6 (e): the three ranges are pairwise disjoint and the second bell window is the last. -/
abbrev Config.wfDisjoint (c : Config) : Prop :=
  (c.r1Hi ≤ c.wLo ∨ c.wHi ≤ c.r1Lo) ∧ c.r1Hi ≤ c.r2Lo ∧ c.wHi ≤ c.r2Lo

/-- R6 (f). -/
abbrev Config.wfLast (c : Config) : Prop := c.r2Hi ≤ wordMax - 1

/-- R6 (g). -/
abbrev Config.wfDelays (c : Config) : Prop :=
  c.delayMin ≤ c.delayMax ∧ c.delayMax ≤ wordMax ∧
  (c.tStarted - 1) * c.delayInc ≤ c.delayMax ∧
  c.delayMin + (c.tStopped - 1) * c.delayInc ≤ wordMax

/-- R6 (h) for one table: a length between 2 and `2^W - 1`, every byte in 1..255 (R63). -/
abbrev wfTable (t : List Byte) : Prop :=
  2 ≤ t.length ∧ t.length ≤ wordMax ∧ ∀ b ∈ t, 1 ≤ b.toNat

/-- R6 (h). -/
abbrev Config.wfTables (c : Config) : Prop :=
  wfTable c.engine ∧ wfTable c.bell ∧ wfTable c.whistle

/-- R6 (i). -/
abbrev Config.wfWindowTicks (c : Config) : Prop :=
  1 ≤ c.ticksPerWindow ∧ c.ticksPerWindow ≤ wordMax

/-- `WF(cfg)` (R6). A premise of statements only: the step never checks it (R6, U6). -/
abbrev Config.WF (c : Config) : Prop :=
  c.wfStart ∧ c.wfRamp ∧ c.wfThresholds ∧ c.wfWindows ∧ c.wfDisjoint ∧ c.wfLast ∧
  c.wfDelays ∧ c.wfTables ∧ c.wfWindowTicks

/-- An instruction that is one of the four operations of R9, which are what a stimulus word can spell
(R84); a pseudo-operation is another spelling of one of them (R94) and is not what a word decodes to. -/
def Instr.wellFormed : Instr → Bool
  | .idle => true
  | .tick _ => true
  | .pinchg _ _ _ _ => true
  | .reset => true
  | .press1 => false
  | .bounce1 => false
  | .press2 => false
  | .bounce2 => false
  | .press12 => false
  | .other => false
  | .release2 => false

/-- The canonical spelling (R91 (a)): an ignored hold bit is 0. -/
def Instr.canonical : Instr → Bool
  | .pinchg f1 h1 f2 h2 => (f1 || !h1) && (f2 || !h2)
  | _ => true

end Sys2Proof
end

