-- ==== Sys2Proof/Decode.lean ====
section
/-! DEFINITION. The decoder of stimulus words, total and refusing by name (R84 to R90), the encoder
written from the same formats (R84 to R89, R93), the expansion of the pseudo-operations (R94), and the
host's reading of a table word. -/

namespace Sys2Proof

/-- The operation a stimulus word spells (R84 to R89), or the name of the reserved range it lies in
(R90). Bits 7:6 are the opcode. -/
def decodeByte (w : Byte) : Except DecodeError Instr :=
  match (w.extractLsb' 6 2).toNat with
  | 0 => if w.extractLsb' 0 6 = 0#6 then .ok .idle else .error .reservedIdle
  | 1 => if w.extractLsb' 1 5 = 0#5 then .ok (.tick (w.getLsbD 0)) else .error .reservedTick
  | 2 =>
    if w.extractLsb' 4 2 = 0#2 then
      .ok (.pinchg (w.getLsbD 0) (w.getLsbD 1) (w.getLsbD 2) (w.getLsbD 3))
    else .error .reservedPinchg
  | _ => if w.extractLsb' 0 6 = 0#6 then .ok .reset else .error .reservedReset

/-- Decode the first operation of a list of bytes: one word each, no prefix, no longer form (R84). -/
def decode : List Byte → Except DecodeError (Instr × List Byte)
  | [] => .error .noWord
  | w :: rest =>
    match decodeByte w with
    | .ok i => .ok (i, rest)
    | .error e => .error e

/-- The operation a pseudo-operation stands for (R94); an operation stands for itself. -/
def Instr.expand : Instr → Instr
  | .idle => .idle
  | .tick s => .tick s
  | .pinchg f1 h1 f2 h2 => .pinchg f1 h1 f2 h2
  | .reset => .reset
  | .press1 => .pinchg true true false false
  | .bounce1 => .pinchg true false false false
  | .press2 => .pinchg false false true true
  | .bounce2 => .pinchg false false true false
  | .press12 => .pinchg true true true true
  | .other => .pinchg false false false false
  | .release2 => .pinchg false false false false

/-- Format Z (R84): `op`, then six zero bits. -/
def formatZ (op : BitVec 2) : Byte := op ++ 0#6

/-- Format T (R84): `op` = 01, five zero bits, `s`. -/
def formatT (s : Bool) : Byte := 1#2 ++ (0#5 ++ BitVec.ofBool s)

/-- Format P (R84): `op` = 10, two zero bits, `b2_hold`, `b2_fall`, `b1_hold`, `b1_fall`. -/
def formatP (b1Fall b1Hold b2Fall b2Hold : Bool) : Byte :=
  2#2 ++ (0#2 ++ (BitVec.ofBool b2Hold ++ (BitVec.ofBool b2Fall ++
    (BitVec.ofBool b1Hold ++ BitVec.ofBool b1Fall))))

/-- The stimulus word of an instruction (R85 to R88, R93, R94). -/
def encodeWord : Instr → Byte
  | .idle => formatZ 0#2
  | .tick s => formatT s
  | .pinchg f1 h1 f2 h2 => formatP f1 h1 f2 h2
  | .reset => formatZ 3#2
  | .press1 => formatP true true false false
  | .bounce1 => formatP true false false false
  | .press2 => formatP false false true true
  | .bounce2 => formatP false false true false
  | .press12 => formatP true true true true
  | .other => formatP false false false false
  | .release2 => formatP false false false false

/-- The words of an instruction: one byte (R84). -/
def encode (i : Instr) : List Byte := [encodeWord i]

/-- The operations a line of a stimulus program stands for, in order (R93, R94): `TICKS n, s` is
`TICK s` repeated `n` times. -/
def assembleLine : Line → List Instr
  | .op i => [i]
  | .ticks n s => List.replicate n (.tick s)

/-- The stimulus words of a program, in order (R93). -/
def assemble (p : List Line) : List Byte := (p.flatMap assembleLine).map encodeWord

/-- The low `n` bytes of `w`, first byte least significant. -/
def bytesOf : Nat → Nat → List Byte
  | 0, _ => []
  | n + 1, w => BitVec.ofNat 8 w :: bytesOf n (w / 256)

/-- What the decoder reads from an opcode-table word of `nbits` bits (bit 0 the least significant bit of
the first word, bits above `nbits` zero): the instruction, if the bytes spell exactly one. -/
def decodeTableWord (nbits w : Nat) : Option Instr :=
  match decode (bytesOf (max 1 (nbits / 8)) (w % 2 ^ nbits)) with
  | .ok (i, []) => some i
  | _ => none

end Sys2Proof
end

