-- ==== Sys2Proof/Machine/Operands.lean ====
section
/-! DEFINITION. The codes of the enumerations (R80 to R82) and the derived operands of `PINCHG` (R89,
R111). -/

namespace Sys2Proof.Machine

/-- The 3-bit code of an Event value (R80). -/
def eventCode : Event → BitVec 3
  | .none => 0#3
  | .sensorMissing => 1#3
  | .button1Pressed => 2#3
  | .button1Released => 3#3
  | .button2Pressed => 4#3
  | .button2Released => 5#3

/-- The Event value a code stands for (R80); codes 6 and 7 stand for none (R91 (b)). -/
def eventOf (c : BitVec 3) : Option Event :=
  match c.toNat with
  | 0 => some .none
  | 1 => some .sensorMissing
  | 2 => some .button1Pressed
  | 3 => some .button1Released
  | 4 => some .button2Pressed
  | 5 => some .button2Released
  | _ => Option.none

/-- The position of a phase in the order of R81. -/
def phaseCode : Phase → Nat
  | .none => 0
  | .starting => 1
  | .running => 2
  | .stopping => 3
  | .ringing => 4
  | .whistling => 5

/-- The id of a table (R82). -/
def tableCode : TableId → Nat
  | .engine => 0
  | .bell => 1
  | .whistle => 2

/-- `b1_press` or `b2_press` (R89, R111): a falling edge still asserted at the re-read. -/
def pressed (fall hold : Bool) : Bool := fall && hold

end Sys2Proof.Machine
end

