-- ==== Sys2Proof/Machine/Ops.lean ====
section
/-! DEFINITION. The shared operations over registers and memory: saturation (R7), the table read (R61),
the clear of the counters (R116), the report of SensorMissing (R211, the block's one fault condition),
the increment of the fade counter, the register access `x[i]` (R7, R36), the ports (R46), and taking
the next stimulus word. -/

namespace Sys2Proof.Machine

/-- `sat_W(v) = min(v, 2^W - 1)`, narrowed to a counter register (R7, D3). -/
def satW (v : Nat) : Word := BitVec.ofNat 16 (min v wordMax)

/-- The bytes of a table, a field of `cfg` (R60). -/
def tableBytes (c : Config) : TableId → List Byte
  | .engine => c.engine
  | .bell => c.bell
  | .whistle => c.whistle

/-- `MemRead(TBL(t) + i, 1)` (R61): the byte at index `i`, for `i < Len(t)`. There is no location beyond
(R60), and no rule reads there (R62): the read then answers nothing. -/
def memRead (c : Config) (t : TableId) (i : Nat) : Option Byte := (tableBytes c t)[i]?

/-- `ClearCounters()` (R116): the seven counters. -/
def clearCounters (s : State) : State :=
  { s with
    rampCount := 0#16
    soundCount := 0#16
    idx := 0#16
    fade := 0#8
    delay := 0#16
    sensorCount := 0#16
    windowCount := 0#16 }

/-- Taking the one fault condition of the block (R211, R134): it is recorded in `event` and nowhere else.
Nothing is saved, no mode changes, nothing is transferred to a handler (R218), so there is no return
from it either (R219); it is left by a press or by `RESET` (R122). -/
def raiseSensorMissing (s : State) : State := { s with event := eventCode .sensorMissing }

/-- `fade <- fade + 1` (R185, R186). The spec bounds `fade` by 254 at every operation boundary (R27) and
states no result for 255: that value is free, and the draw is counted (log 7). -/
def incFade (s : State) : State :=
  if s.fade = 255#8 then
    { s with fade := Config.freeFade s.freeCount, freeCount := s.freeCount + 1 }
  else { s with fade := s.fade + 1#8 }

/-- All thirteen registers at their reset values (R200, R43); `cfg` is not state and is kept. -/
def resetRegisters (s : State) : State :=
  { s with
    event := eventCode .none
    sensorEn := false
    motorDuty := 0#8
    rampCount := 0#16
    soundCount := 0#16
    idx := 0#16
    fade := 0#8
    delay := 0#16
    amp := 0#8
    sensorCount := 0#16
    windowCount := 0#16
    motorPwm := 0#8
    audioPwm := 0#8 }

/-- `WriteOutputs()` (R135). -/
def writeOutputs (s : State) : State := { s with motorPwm := s.motorDuty, audioPwm := s.amp }

/-- The number of a register (R36). -/
def regNumber : Reg → Nat
  | .event => 0
  | .sensorEn => 1
  | .motorDuty => 2
  | .rampCount => 3
  | .soundCount => 4
  | .idx => 5
  | .fade => 6
  | .delay => 7
  | .amp => 8
  | .sensorCount => 9
  | .windowCount => 10
  | .motorPwm => 11
  | .audioPwm => 12

/-- The registers in the order of their numbers (R20, R36). -/
def allRegs : List Reg :=
  [.event, .sensorEn, .motorDuty, .rampCount, .soundCount, .idx, .fade, .delay, .amp, .sensorCount,
   .windowCount, .motorPwm, .audioPwm]

/-- The register a number names (R36). -/
def regOf (n : Nat) : Option Reg := allRegs[n]?

/-- The width of a register in bits (R20). -/
def regWidth : Reg → Nat
  | .event => 3
  | .sensorEn => 1
  | .motorDuty => 8
  | .rampCount => 16
  | .soundCount => 16
  | .idx => 16
  | .fade => 8
  | .delay => 16
  | .amp => 8
  | .sensorCount => 16
  | .windowCount => 16
  | .motorPwm => 8
  | .audioPwm => 8

/-- The read `x[i]` (R7): an unsigned integer. -/
def readReg (s : State) : Reg → Nat
  | .event => s.event.toNat
  | .sensorEn => s.sensorEn.toNat
  | .motorDuty => s.motorDuty.toNat
  | .rampCount => s.rampCount.toNat
  | .soundCount => s.soundCount.toNat
  | .idx => s.idx.toNat
  | .fade => s.fade.toNat
  | .delay => s.delay.toNat
  | .amp => s.amp.toNat
  | .sensorCount => s.sensorCount.toNat
  | .windowCount => s.windowCount.toNat
  | .motorPwm => s.motorPwm.toNat
  | .audioPwm => s.audioPwm.toNat

/-- The write `x[i] <- v` (R7), for a `v` that fits the register; a larger one keeps the register's
width of low bits (no rule writes one). -/
def writeReg (s : State) (r : Reg) (v : Nat) : State :=
  match r with
  | .event => { s with event := BitVec.ofNat 3 v }
  | .sensorEn => { s with sensorEn := v.testBit 0 }
  | .motorDuty => { s with motorDuty := BitVec.ofNat 8 v }
  | .rampCount => { s with rampCount := BitVec.ofNat 16 v }
  | .soundCount => { s with soundCount := BitVec.ofNat 16 v }
  | .idx => { s with idx := BitVec.ofNat 16 v }
  | .fade => { s with fade := BitVec.ofNat 8 v }
  | .delay => { s with delay := BitVec.ofNat 16 v }
  | .amp => { s with amp := BitVec.ofNat 8 v }
  | .sensorCount => { s with sensorCount := BitVec.ofNat 16 v }
  | .windowCount => { s with windowCount := BitVec.ofNat 16 v }
  | .motorPwm => { s with motorPwm := BitVec.ofNat 8 v }
  | .audioPwm => { s with audioPwm := BitVec.ofNat 8 v }

/-- The thirteen registers as a list of numbers, in the order of R20. -/
def registers (s : State) : List Nat := allRegs.map (readReg s)

/-- The output ports (R46). -/
def ports (s : State) : Ports :=
  { motorPwm := s.motorPwm, audioPwm := s.audioPwm, sensorEn := s.sensorEn, event := s.event }

/-- Taking the next stimulus word (R9, R93): the operation it spells, and the state with that word
performed; a reserved word gives no step (R90), and with no word left the run has ended (R249). -/
def fetch (s : State) : Except Refusal (Instr × State) :=
  match s.stimuli with
  | [] => .error .noStimulus
  | w :: rest =>
    match decode (w :: rest) with
    | .ok (i, more) => .ok (i, { s with stimuli := more })
    | .error e => .error (.reservedWord e)

end Sys2Proof.Machine
end

