-- ==== Sys2Proof/Machine/Debouncer.lean ====
section
/-! DEFINITION. The Event Debouncer: the operation `PINCHG` (R110 to R123), and the pseudo-operations
that are other spellings of it (R94). -/

namespace Sys2Proof.Machine

/-- The Button1 step (R112 to R115). -/
def button1Step (fall hold : Bool) (s : State) : State :=
  if pressed fall hold then
    if s.event ≠ eventCode .button1Pressed then
      setSensorEn (clearCounters { s with event := eventCode .button1Pressed })
    else if s.cfg.tStopped ≤ s.soundCount.toNat then
      clearSensorEn (clearCounters { s with event := eventCode .button1Released })
    else s
  else s

/-- The Button2 step (R112, R117). -/
def button2Step (fall hold : Bool) (s : State) : State :=
  if pressed fall hold then
    { s with soundCount := 0#16, event := eventCode .button2Pressed }
  else s

/-- The release step (R112, R118): no falling edge on either button in this invocation. -/
def releaseStep (b1Fall b2Fall : Bool) (s : State) : State :=
  if !b1Fall && !b2Fall && s.event == eventCode .button2Pressed then
    { s with event := eventCode .button2Released }
  else s

/-- The three steps of `PINCHG`, in order, each seeing the writes of the one before (R112). -/
def pinChange (b1Fall b1Hold b2Fall b2Hold : Bool) (s : State) : State :=
  releaseStep b1Fall b2Fall (button2Step b2Fall b2Hold (button1Step b1Fall b1Hold s))

/-- `PINCHG` (R112); it cannot fault (R110). -/
def execPinchg (b1Fall b1Hold b2Fall b2Hold : Bool) (s : State) : Host.Outcome State Fault Refusal :=
  .next (pinChange b1Fall b1Hold b2Fall b2Hold s)

/-- `PRESS1` is `PINCHG 1,1,0,0` (R94). -/
def execPress1 (s : State) : Host.Outcome State Fault Refusal :=
  .next (pinChange true true false false s)

/-- `BOUNCE1` is `PINCHG 1,0,0,0` (R94). -/
def execBounce1 (s : State) : Host.Outcome State Fault Refusal :=
  .next (pinChange true false false false s)

/-- `PRESS2` is `PINCHG 0,0,1,1` (R94). -/
def execPress2 (s : State) : Host.Outcome State Fault Refusal :=
  .next (pinChange false false true true s)

/-- `BOUNCE2` is `PINCHG 0,0,1,0` (R94). -/
def execBounce2 (s : State) : Host.Outcome State Fault Refusal :=
  .next (pinChange false false true false s)

/-- `PRESS12` is `PINCHG 1,1,1,1` (R94). -/
def execPress12 (s : State) : Host.Outcome State Fault Refusal :=
  .next (pinChange true true true true s)

/-- `OTHER` is `PINCHG 0,0,0,0` (R94). -/
def execOther (s : State) : Host.Outcome State Fault Refusal :=
  .next (pinChange false false false false s)

/-- `RELEASE2` is `OTHER` (R94). -/
def execRelease2 (s : State) : Host.Outcome State Fault Refusal :=
  .next (pinChange false false false false s)

end Sys2Proof.Machine
end

