-- ==== Sys2Proof/Machine/HostOps.lean ====
section
/-! DEFINITION. The operations of the external collaborators: `RESET` (R200) and `IDLE` (R201). -/

namespace Sys2Proof.Machine

/-- `RESET` (R200). -/
def execReset (s : State) : Host.Outcome State Fault Refusal := .next (resetRegisters s)

/-- `IDLE` (R201): it reads `event` on its port and writes nothing. -/
def execIdle (s : State) : Host.Outcome State Fault Refusal := .next s

end Sys2Proof.Machine
end

