-- ==== Sys2Proof/Machine/MotorRamp.lean ====
section
/-! DEFINITION. The motor ramp, the second sub-step of `TICK` (R145 to R153). -/

namespace Sys2Proof.Machine

/-- The ramp while `event` is Button1Pressed: the start jump (R146), the start ramp (R147), full speed
(R148). -/
def rampUp (s : State) : State :=
  if s.motorDuty.toNat < motorMax then
    if s.rampCount = 0#16 then { s with motorDuty := s.cfg.motorStart, rampCount := 1#16 }
    else if s.cfg.n1 ≤ s.rampCount.toNat then
      { s with motorDuty := s.motorDuty + 1#8, rampCount := 1#16 }
    else { s with rampCount := satW (s.rampCount.toNat + 1) }
  else s

/-- The ramp while `event` is Button1Released: the stop ramp (R149), stopped (R150). -/
def rampDown (s : State) : State :=
  if 0 < s.motorDuty.toNat then
    if s.cfg.n2 ≤ s.rampCount.toNat + 1 then
      { s with motorDuty := s.motorDuty - 1#8, rampCount := 0#16 }
    else { s with rampCount := satW (s.rampCount.toNat + 1) }
  else s

/-- The forced stop (R151). -/
def forceStop (s : State) : State := { s with motorDuty := 0#8 }

/-- `MotorRamp()` (R145); None and the codes 6 and 7 hold (R152). -/
def motorRamp (s : State) : State :=
  match eventOf s.event with
  | some .button1Pressed => rampUp s
  | some .button1Released => rampDown s
  | some .button2Pressed => forceStop s
  | some .sensorMissing => forceStop s
  | some .button2Released => forceStop s
  | some .none => s
  | Option.none => s

end Sys2Proof.Machine
end

