-- ==== Sys2Proof/Machine/SoundSelect.lean ====
section
/-! DEFINITION. The sound state selector, the third sub-step of `TICK` (R160 to R167): the rewind, the
phase function, and the table a phase selects. -/

namespace Sys2Proof.Machine

/-- The rewind (R161), narrowed to the register by saturation (R6, R191, log 6). -/
def rewind (s : State) : State :=
  if s.event = eventCode .button1Pressed ∧ s.cfg.r2Hi ≤ s.soundCount.toNat then
    { s with soundCount := satW s.cfg.tStarted }
  else s

/-- `Phase(cfg, e, n)` (R162 to R165); the order of the tests decides for overlapping windows. -/
def phase (c : Config) (e : BitVec 3) (n : Nat) : Phase :=
  match eventOf e with
  | some .button1Pressed =>
    if n < c.tStarted then .starting
    else if (c.r1Lo ≤ n ∧ n < c.r1Hi) ∨ (c.r2Lo ≤ n ∧ n < c.r2Hi) then .ringing
    else if c.wLo ≤ n ∧ n < c.wHi then .whistling
    else .running
  | some .button1Released => if n < c.tStopped then .stopping else .none
  | some .button2Pressed => .whistling
  | some .none => .none
  | some .sensorMissing => .none
  | some .button2Released => .none
  | Option.none => .none

/-- `Table(p)` (R166), defined for the phases other than None. -/
def tableOf : Phase → Option TableId
  | .none => Option.none
  | .starting => some .engine
  | .running => some .engine
  | .stopping => some .engine
  | .ringing => some .bell
  | .whistling => some .whistle

/-- The length of a table (R60); `Len(cfg, p)` is that of `Table(p)` (R166). -/
def tableLen (c : Config) (t : TableId) : Nat := (tableBytes c t).length

/-- The phase `SoundSelect()` returns for the state the rewind left (R160). -/
def selectedPhase (s : State) : Phase := phase s.cfg s.event s.soundCount.toNat

end Sys2Proof.Machine
end

