-- ==== Sys2Proof/Machine/Playback.lean ====
section
/-! DEFINITION. The playback and envelope engine, the fourth sub-step of `TICK` (R175 to R192). A branch
answers nothing only where a table read has no location (R62), which no state reaches. -/

namespace Sys2Proof.Machine

/-- `PassDelay(p, n)` (R178 to R182); phase None ends no pass. -/
def passDelay (c : Config) (p : Phase) (n : Nat) : Word :=
  match p with
  | .starting => satW (c.delayMax - n * c.delayInc)
  | .running => satW c.delayMin
  | .stopping => satW (c.delayMin + n * c.delayInc)
  | .ringing => 0#16
  | .whistling => 0#16
  | .none => 0#16

/-- `FadeCond(p, n)` (R184); the first clause compares by the order of R81. -/
def fadeCond (c : Config) (p : Phase) (n : Nat) : Bool :=
  decide (phaseCode p ≤ phaseCode .stopping) || n == c.r1Lo || n == c.wLo || n == c.r2Lo

/-- Phase None (R176): silence, and the cursor is frozen. -/
def silence (s : State) : State := { s with amp := 0#8 }

/-- The pause countdown (R177). -/
def countPause (s : State) : State := { s with delay := s.delay - 1#16 }

/-- The end of a pass (R178, R183): the pause uses the count before the increment. -/
def endOfPass (p : Phase) (s : State) : State :=
  { s with
    delay := passDelay s.cfg p s.soundCount.toNat
    idx := 0#16
    fade := 0#8
    soundCount := satW (s.soundCount.toNat + 1) }

/-- A fade-in tick with the boundary byte `b` (R185). -/
def fadeInTick (b : Byte) (s : State) : State :=
  let s1 := incFade s
  let s2 := { s1 with amp := s1.fade }
  if b.toNat ≤ s2.fade.toNat then { s2 with idx := 1#16, fade := 0#8 } else s2

/-- A fade-out tick with the boundary byte `b` of a table of length `len` (R186); `-.` is truncated. -/
def fadeOutTick (b : Byte) (len : Nat) (s : State) : State :=
  let s1 := incFade s
  let s2 := { s1 with amp := BitVec.ofNat 8 (b.toNat - s1.fade.toNat) }
  if b.toNat ≤ s2.fade.toNat then { s2 with idx := satW len, fade := 0#8 } else s2

/-- A normal tick that plays the byte `b` (R187). -/
def normalTick (b : Byte) (s : State) : State :=
  { s with amp := b, idx := satW (s.idx.toNat + 1), fade := 0#8 }

/-- The three playing branches and the end of pass, in the order of R175 (R188). -/
def playTable (p : Phase) (t : TableId) (s : State) : Option State :=
  if tableLen s.cfg t ≤ s.idx.toNat then some (endOfPass p s)
  else if s.idx = 0#16 ∧ fadeCond s.cfg p s.soundCount.toNat = true then
    (memRead s.cfg t 0).map fun b => fadeInTick b s
  else if s.idx.toNat = tableLen s.cfg t - 1 then
    (memRead s.cfg t (tableLen s.cfg t - 1)).map fun b => fadeOutTick b (tableLen s.cfg t) s
  else
    (memRead s.cfg t s.idx.toNat).map fun b => normalTick b s

/-- `Playback(p)` (R175): exactly one of six branches, tested in this order. -/
def playback (p : Phase) (s : State) : Option State :=
  match tableOf p with
  | Option.none => some (silence s)
  | some t => if 0 < s.delay.toNat then some (countPause s) else playTable p t s

end Sys2Proof.Machine
end

