-- ==== Sys2Proof/Machine/SensorWatch.lean ====
section
/-! DEFINITION. The sensor watch, the first sub-step of `TICK` (R132 to R134). -/

namespace Sys2Proof.Machine

/-- R132: the level is counted only while the sensor line is enabled. -/
def countSensor (level : Bool) (s : State) : State :=
  if s.sensorEn && level then { s with sensorCount := satW (s.sensorCount.toNat + 1) } else s

/-- `SensorCheck()` (R134). -/
def sensorCheck (s : State) : State :=
  if s.event = eventCode .button1Pressed ∧ s.sensorCount = 0#16 then raiseSensorMissing s else s

/-- One more tick of the window (R133). -/
def incWindow (s : State) : State := { s with windowCount := satW (s.windowCount.toNat + 1) }

/-- The window test (R133): at the end of a window, check and start the next one. -/
def closeWindow (s : State) : State :=
  if s.cfg.ticksPerWindow ≤ s.windowCount.toNat then
    { sensorCheck s with sensorCount := 0#16, windowCount := 0#16 }
  else s

/-- `SensorWatch(s)` (R131): the count comes before the window test (R133). -/
def sensorWatch (level : Bool) (s : State) : State := closeWindow (incWindow (countSensor level s))

end Sys2Proof.Machine
end

