-- ==== Sys2Proof/Machine/Tick.lean ====
section
/-! DEFINITION. The operation `TICK`: its five sub-steps in order (R130, R131). -/

namespace Sys2Proof.Machine

/-- What the first three sub-steps of a tick leave (R131): sensor watch, motor ramp, rewind. -/
def tickFront (level : Bool) (s : State) : State := rewind (motorRamp (sensorWatch level s))

/-- The five sub-steps of `TICK`, in order, each seeing the writes of those before it (R131). -/
def tick (level : Bool) (s : State) : Option State :=
  (playback (selectedPhase (tickFront level s)) (tickFront level s)).map writeOutputs

/-- `TICK s` (R131). The fault stands for a table read that has no location, which R62 excludes. -/
def execTick (level : Bool) (s : State) : Host.Outcome State Fault Refusal :=
  match tick level s with
  | some t => .next t
  | Option.none => .fault .tableReadBeyondEnd

end Sys2Proof.Machine
end

