-- ==== Sys2Proof/Machine/Dispatch.lean ====
section
/-! DEFINITION. One arm per operation and pseudo-operation: the meaning of each. -/

namespace Sys2Proof.Machine

def exec (i : Instr) (s : State) : Host.Outcome State Fault Refusal :=
  match i with
  | .idle => Sys2Proof.Machine.execIdle s
  | .tick level => Sys2Proof.Machine.execTick level s
  | .pinchg b1Fall b1Hold b2Fall b2Hold => Sys2Proof.Machine.execPinchg b1Fall b1Hold b2Fall b2Hold s
  | .reset => Sys2Proof.Machine.execReset s
  | .press1 => Sys2Proof.Machine.execPress1 s
  | .bounce1 => Sys2Proof.Machine.execBounce1 s
  | .press2 => Sys2Proof.Machine.execPress2 s
  | .bounce2 => Sys2Proof.Machine.execBounce2 s
  | .press12 => Sys2Proof.Machine.execPress12 s
  | .other => Sys2Proof.Machine.execOther s
  | .release2 => Sys2Proof.Machine.execRelease2 s

end Sys2Proof.Machine
end

