-- ==== Sys2Proof/Machine/Step.lean ====
section
/-! DEFINITION. One step of the machine: take the next stimulus word and perform the operation it spells
(R9, R248: a model steps once per stimulus word). -/

namespace Sys2Proof.Machine

/-- One step (R9, R248). -/
def step (s : State) : Host.Outcome State Fault Refusal :=
  match fetch s with
  | .ok (i, s') => exec i s'
  | .error r => .refused r

/-- The state whose next stimulus word is the table word `w` (every instruction is one byte, R84). It
replaces the head of `stimuli`, where `fetch` reads, and changes nothing else (log 2). -/
def State.withFetchWord (s : State) (nbits w : Nat) : State :=
  { s with stimuli := bytesOf (max 1 (nbits / 8)) (w % 2 ^ nbits) ++ s.stimuli.drop 1 }

end Sys2Proof.Machine
end

