-- ==== Sys2Proof/Machine/Assembler.lean ====
section
/-! DEFINITION. The assembler's text of a stimulus program (R93, R94): one operation per line, `;` starts a
comment. How words of a line are separated is the model's choice (log 18). -/

namespace Sys2Proof.Machine

/-- The characters that separate the words of a line (log 18). -/
def isSeparator (c : Char) : Bool := c == ' ' || c == ',' || c == '\t' || c == '\r'

/-- Split a line into words; `cur` holds the word being read, reversed. -/
def wordsFrom (cur : List Char) : List Char → List (List Char)
  | [] => if cur.isEmpty then [] else [cur.reverse]
  | c :: cs =>
    if isSeparator c then
      if cur.isEmpty then wordsFrom [] cs else cur.reverse :: wordsFrom [] cs
    else wordsFrom (c :: cur) cs

/-- The words of a line, its comment dropped (R93). -/
def lineWords (cs : List Char) : List (List Char) := wordsFrom [] (cs.takeWhile (· != ';'))

/-- An operand in {0, 1} (R93). -/
def parseBit : List Char → Option Bool
  | ['0'] => some false
  | ['1'] => some true
  | _ => none

/-- The value of a decimal digit. -/
def digitOf (c : Char) : Option Nat :=
  if 48 ≤ c.toNat ∧ c.toNat ≤ 57 then some (c.toNat - 48) else none

/-- Decimal digits after the value `acc`. -/
def parseDigits (acc : Nat) : List Char → Option Nat
  | [] => some acc
  | c :: cs => (digitOf c).bind fun d => parseDigits (10 * acc + d) cs

/-- A decimal count, of at least one digit. -/
def parseNat : List Char → Option Nat
  | [] => none
  | cs => parseDigits 0 cs

/-- The mnemonics, in upper case (R93, R94). -/
def mnemonicIdle : List Char := ['I', 'D', 'L', 'E']
def mnemonicTick : List Char := ['T', 'I', 'C', 'K']
def mnemonicTicks : List Char := ['T', 'I', 'C', 'K', 'S']
def mnemonicPinchg : List Char := ['P', 'I', 'N', 'C', 'H', 'G']
def mnemonicReset : List Char := ['R', 'E', 'S', 'E', 'T']
def mnemonicPress1 : List Char := ['P', 'R', 'E', 'S', 'S', '1']
def mnemonicBounce1 : List Char := ['B', 'O', 'U', 'N', 'C', 'E', '1']
def mnemonicPress2 : List Char := ['P', 'R', 'E', 'S', 'S', '2']
def mnemonicBounce2 : List Char := ['B', 'O', 'U', 'N', 'C', 'E', '2']
def mnemonicPress12 : List Char := ['P', 'R', 'E', 'S', 'S', '1', '2']
def mnemonicOther : List Char := ['O', 'T', 'H', 'E', 'R']
def mnemonicRelease2 : List Char := ['R', 'E', 'L', 'E', 'A', 'S', 'E', '2']

/-- The line spelled by its words (R93, R94). -/
def parseWords : List (List Char) → Option Line
  | [m] =>
    if m = mnemonicIdle then some (.op .idle)
    else if m = mnemonicReset then some (.op .reset)
    else if m = mnemonicPress1 then some (.op .press1)
    else if m = mnemonicBounce1 then some (.op .bounce1)
    else if m = mnemonicPress2 then some (.op .press2)
    else if m = mnemonicBounce2 then some (.op .bounce2)
    else if m = mnemonicPress12 then some (.op .press12)
    else if m = mnemonicOther then some (.op .other)
    else if m = mnemonicRelease2 then some (.op .release2)
    else none
  | [m, a] => if m = mnemonicTick then (parseBit a).map fun s => .op (.tick s) else none
  | [m, a, b] =>
    if m = mnemonicTicks then
      (parseNat a).bind fun n => (parseBit b).map fun s => .ticks n s
    else none
  | [m, a, b, c, d] =>
    if m = mnemonicPinchg then
      (parseBit a).bind fun f1 => (parseBit b).bind fun h1 =>
        (parseBit c).bind fun f2 => (parseBit d).map fun h2 => .op (.pinchg f1 h1 f2 h2)
    else none
  | _ => none

/-- The program a list of text lines spells (R93): a blank line or a comment line spells nothing, and one
line that spells no operation refuses the whole. -/
def parseLines : List (List Char) → Option (List Line)
  | [] => some []
  | l :: ls =>
    if (lineWords l).isEmpty then parseLines ls
    else (parseWords (lineWords l)).bind fun x => (parseLines ls).map fun xs => x :: xs

/-- Split a text into its lines; `cur` holds the line being read, reversed. -/
def splitLines (cur : List Char) : List Char → List (List Char)
  | [] => [cur.reverse]
  | c :: cs => if c = '\n' then cur.reverse :: splitLines [] cs else splitLines (c :: cur) cs

/-- The program a text spells (R93). -/
def parseProgram (text : List Char) : Option (List Line) := parseLines (splitLines [] text)

/-- An operand bit as text. -/
def showBit (b : Bool) : List Char := [if b then '1' else '0']

/-- A line of a program as text (R93, R94). -/
def showLine : Line → List Char
  | .op .idle => mnemonicIdle
  | .op (.tick s) => mnemonicTick ++ ' ' :: showBit s
  | .op (.pinchg f1 h1 f2 h2) =>
    mnemonicPinchg ++ ' ' :: showBit f1 ++ ',' :: showBit h1 ++ ',' :: showBit f2 ++ ',' :: showBit h2
  | .op .reset => mnemonicReset
  | .op .press1 => mnemonicPress1
  | .op .bounce1 => mnemonicBounce1
  | .op .press2 => mnemonicPress2
  | .op .bounce2 => mnemonicBounce2
  | .op .press12 => mnemonicPress12
  | .op .other => mnemonicOther
  | .op .release2 => mnemonicRelease2
  | .ticks n s => mnemonicTicks ++ ' ' :: Nat.toDigits 10 n ++ ',' :: ' ' :: showBit s

end Sys2Proof.Machine
end

