-- ==== Sys2Proof/Machine/Run.lean ====
section
/-! DEFINITION. Runs of several operations and what they show (R93, R95, R249). -/

namespace Sys2Proof.Machine

/-- The operations of a list performed in order (R93), stopping at a fault or a refusal. -/
def runOps : List Instr → State → Host.Outcome State Fault Refusal
  | [], s => .next s
  | i :: is, s =>
    match exec i s with
    | .next t => runOps is t
    | .fault r => .fault r
    | .refused r => .refused r

/-- Ticks with the given sensor levels, in order. -/
def runTicks (levels : List Bool) (s : State) : Host.Outcome State Fault Refusal :=
  runOps (levels.map Instr.tick) s

/-- What one operation shows, given the state after it (R95). -/
def observe (i : Instr) (t : State) : Observation :=
  { outputs :=
      match i with
      | .tick _ => some (t.motorPwm, t.audioPwm)
      | _ => none
    event := t.event
    sensorEn := t.sensorEn }

/-- The trace of a run (R95, R249): one observation per operation performed. -/
def traceOps : List Instr → State → List Observation
  | [], _ => []
  | i :: is, s =>
    match exec i s with
    | .next t => observe i t :: traceOps is t
    | .fault _ => []
    | .refused _ => []

/-- Two runs are equal (R249): the same trace and the same final values of the thirteen registers. -/
def sameRun (is js : List Instr) (s s' : State) : Prop :=
  traceOps is s = traceOps js s' ∧
  ∃ t t', runOps is s = .next t ∧ runOps js s' = .next t' ∧ registers t = registers t'

/-- The playback engine alone, fed the phase `p` on each of `k` ticks (R190). -/
def playMany (p : Phase) : Nat → State → Option State
  | 0, s => some s
  | k + 1, s => (playback p s).bind (playMany p k)

end Sys2Proof.Machine
end

