-- ==== Sys2Proof/Safety.lean ====
section
/-! DEFINITION. What the claims mean by a safe state: the invariants of rule R44 and of the register rules
R24 to R33 it collects, each under its own name; and the terms the claims about ticks use. -/

namespace Sys2Proof.Machine

/-- R44 (a), R21: `event` holds a code of R80. -/
abbrev eventLegal (s : State) : Prop := s.event.toNat ≤ 5

/-- R44 (c), R24: the ramp prescaler stays within `N1`. -/
abbrev rampBounded (s : State) : Prop := s.rampCount.toNat ≤ s.cfg.n1

/-- R44 (d), R31. -/
abbrev windowBounded (s : State) : Prop := s.windowCount.toNat < s.cfg.ticksPerWindow

/-- R44 (e), R32, R33: the outputs equal their sources at every operation boundary. -/
abbrev outputsFresh (s : State) : Prop := s.motorPwm = s.motorDuty ∧ s.audioPwm = s.amp

/-- R44 (f), R123. -/
abbrev sensorTracksRun (s : State) : Prop :=
  ((s.event = eventCode .button1Pressed ∨ s.event = eventCode .sensorMissing) → s.sensorEn = true) ∧
  ((s.event = eventCode .none ∨ s.event = eventCode .button1Released) → s.sensorEn = false)

/-- R27: `fade` is at most 254, so its increment never leaves the register. -/
abbrev fadeBounded (s : State) : Prop := s.fade.toNat ≤ 254

/-- The longest table. -/
def longestTable (c : Config) : Nat := max c.engine.length (max c.bell.length c.whistle.length)

/-- R26 in the part that holds after every operation: the cursor is at most one past the last entry of the
longest table. -/
abbrev cursorBounded (s : State) : Prop := s.idx.toNat ≤ longestTable s.cfg

/-- R44 (i), first half: a run's count stays within the schedule. -/
abbrev scheduleBounded (s : State) : Prop :=
  s.event = eventCode .button1Pressed → s.soundCount.toNat ≤ s.cfg.r2Hi

/-- R44 (i), second half: a run holds the count `R2_HI` only right after the end-of-pass tick that reached
it, with the cursor at the start of a table and no pause. -/
abbrev scheduleEndFresh (s : State) : Prop :=
  s.event = eventCode .button1Pressed → s.soundCount.toNat = s.cfg.r2Hi →
    s.idx = 0#16 ∧ s.fade = 0#8 ∧ s.delay = 0#16

/-- R163, R183: a stop's count stays within its threshold. -/
abbrev stopBounded (s : State) : Prop :=
  s.event = eventCode .button1Released → s.soundCount.toNat ≤ s.cfg.tStopped

/-- R152: `event` None, left only by a press, keeps what `RESET` cleared. -/
abbrev noneIsStill (s : State) : Prop := s.event = eventCode .none → s.motorDuty = 0#8 ∧ s.amp = 0#8

/-- The `sound_count` from which the selector computes the phase of the next tick, if the sensor watch of
that tick leaves the event `e` (R161). -/
def countAfterRewind (c : Config) (e : BitVec 3) (n : Word) : Word :=
  if e = eventCode .button1Pressed ∧ c.r2Hi ≤ n.toNat then satW c.tStarted else n

/-- The phase of a tick whose sensor watch left the event `e` (R160 to R162). -/
def tickPhase (s : State) (e : BitVec 3) : Phase :=
  phase s.cfg e (countAfterRewind s.cfg e s.soundCount).toNat

/-- R26 and R44 (h) for a run or a stop, which a Button1 press begins with the cursor cleared: in the table
of the coming tick's phase the cursor is at most the length, and a fade is under way only at the first
or the last entry. -/
abbrev cursorInTable (s : State) : Prop :=
  (s.event = eventCode .button1Pressed ∨ s.event = eventCode .button1Released) →
    ∀ t ∈ tableOf (tickPhase s s.event),
      s.idx.toNat ≤ tableLen s.cfg t ∧
      (s.fade ≠ 0#8 → s.idx = 0#16 ∨ s.idx.toNat + 1 = tableLen s.cfg t)

/-- The invariant of R44 (a), (c) to (f), (h), (i) with the register bounds R26, R27 and the rests R152,
R163. -/
structure Inv (s : State) : Prop where
  eventLegal : eventLegal s
  rampBounded : rampBounded s
  windowBounded : windowBounded s
  outputsFresh : outputsFresh s
  sensorTracksRun : sensorTracksRun s
  fadeBounded : fadeBounded s
  cursorBounded : cursorBounded s
  scheduleBounded : scheduleBounded s
  scheduleEndFresh : scheduleEndFresh s
  stopBounded : stopBounded s
  noneIsStill : noneIsStill s
  cursorInTable : cursorInTable s

end Sys2Proof.Machine
end

