-- ==== Sys2Proof/Certificates/Slice0/Obligations.lean ====
section
/-! DEFINITION. The statements about the block, for the provers. Each formalises rules of spec/ named in
its docstring. Nothing is proved here. -/

open Sys2Proof Sys2Proof.Machine

/-! ## Encodings -/

/-- R84 to R89, R94: the word of an instruction, followed by any bytes, decodes to the operation the
instruction stands for and leaves those bytes; the four operations stand for themselves. -/
def Obligations.DecodeInvertsEncode : Prop :=
  ∀ (i : Instr) (rest : List Byte),
    decode (encode i ++ rest) = .ok (i.expand, rest) ∧
    (i.wellFormed = true → i.expand = i) ∧ i.expand.wellFormed = true

/-- R84 to R89: no two words spell the same operation, and what a word spells is one of the four
operations. -/
def Obligations.EncodeInvertsDecode : Prop :=
  ∀ (w : Byte) (i : Instr), decodeByte w = .ok i → encodeWord i = w ∧ i.wellFormed = true

/-- R90: the four reserved ranges, each refused by its own name; no other word is refused; a step on a
reserved word is no step. Within it the spec's own decision D28. The words wait in `stimuli` by the
model's choice (log 2), and the step at one is refused under the range's name by the model's reading of
R90 (log 3). -/
def Obligations.ReservedWordsAreRefused : Prop :=
  ∀ w : Byte,
    (decodeByte w = .error .reservedIdle ↔ 0x01 ≤ w.toNat ∧ w.toNat ≤ 0x3F) ∧
    (decodeByte w = .error .reservedTick ↔ 0x42 ≤ w.toNat ∧ w.toNat ≤ 0x7F) ∧
    (decodeByte w = .error .reservedPinchg ↔ 0x90 ≤ w.toNat ∧ w.toNat ≤ 0xBF) ∧
    (decodeByte w = .error .reservedReset ↔ 0xC1 ≤ w.toNat) ∧
    decodeByte w ≠ .error .noWord ∧
    ∀ (e : DecodeError) (s : State) (rest : List Byte),
      decodeByte w = .error e → s.stimuli = w :: rest → step s = .refused (.reservedWord e)

/-- R85 to R89: words written out bit by bit from the formats decode to the operations they stand for. -/
def Obligations.WrittenWordsDecode : Prop :=
  decodeByte 0b00000000#8 = .ok .idle ∧
  decodeByte 0b01000000#8 = .ok (.tick false) ∧
  decodeByte 0b01000001#8 = .ok (.tick true) ∧
  decodeByte 0b10000001#8 = .ok (.pinchg true false false false) ∧
  decodeByte 0b10000010#8 = .ok (.pinchg false true false false) ∧
  decodeByte 0b10000100#8 = .ok (.pinchg false false true false) ∧
  decodeByte 0b10001000#8 = .ok (.pinchg false false false true) ∧
  decodeByte 0b11000000#8 = .ok .reset

/-- R93, the column of words: each operation's word as a sum of its operands. -/
def Obligations.WordOfEachOperation : Prop :=
  (encodeWord .idle).toNat = 0x00 ∧
  (∀ s : Bool, (encodeWord (.tick s)).toNat = 0x40 + s.toNat) ∧
  (∀ f1 h1 f2 h2 : Bool, (encodeWord (.pinchg f1 h1 f2 h2)).toNat =
    0x80 + f1.toNat + 2 * h1.toNat + 4 * f2.toNat + 8 * h2.toNat) ∧
  (encodeWord .reset).toNat = 0xC0

/-- R94: each pseudo-operation has its expansion, its word and its expansion's effect, and `TICKS n, s` is
`n` times `TICK s`. -/
def Obligations.PseudoOperationExpansions : Prop :=
  (Instr.press1.expand = .pinchg true true false false ∧ encodeWord .press1 = 0x83#8) ∧
  (Instr.bounce1.expand = .pinchg true false false false ∧ encodeWord .bounce1 = 0x81#8) ∧
  (Instr.press2.expand = .pinchg false false true true ∧ encodeWord .press2 = 0x8C#8) ∧
  (Instr.bounce2.expand = .pinchg false false true false ∧ encodeWord .bounce2 = 0x84#8) ∧
  (Instr.press12.expand = .pinchg true true true true ∧ encodeWord .press12 = 0x8F#8) ∧
  (Instr.other.expand = .pinchg false false false false ∧ encodeWord .other = 0x80#8) ∧
  (Instr.release2.expand = .pinchg false false false false ∧ encodeWord .release2 = 0x80#8) ∧
  (∀ (i : Instr) (s : State), exec i s = exec i.expand s) ∧
  (∀ (n : Nat) (l : Bool), assembleLine (.ticks n l) = List.replicate n (.tick l) ∧
    assemble [.ticks n l] = List.replicate n (0x40#8 ||| (BitVec.ofBool l).setWidth 8))

/-- R93, R94: the text of every program parses back to that program (the separators are the model's
choice, log 18). -/
def Obligations.ShownProgramParsesBack : Prop :=
  ∀ p : List Line, parseLines (p.map showLine) = some p

/-! ## The step -/

/-- R9, R84: where a stimulus word spells an operation, the step is that operation. That the words wait in
`stimuli`, a field of the model's own, and that a step takes the first of them and leaves the rest, is the
model's choice (log 2). -/
def Obligations.StepPerformsNextOperation : Prop :=
  ∀ (s : State) (w : Byte) (rest : List Byte) (i : Instr),
    s.stimuli = w :: rest → decodeByte w = .ok i → step s = exec i { s with stimuli := rest }

/-- The model's choice (log 2): with no stimulus word left the run has ended (R249) and there is no step. -/
def Obligations.StepWithoutStimulusRefused : Prop :=
  ∀ s : State, s.stimuli = [] → step s = .refused .noStimulus

/-- R62: no table is read at or beyond its length, whatever the phase and the state, and so no operation
and no step faults: every operation has a next state. -/
def Obligations.NoReadBeyondTableAndNoFault : Prop :=
  (∀ (p : Phase) (s : State), playback p s ≠ none) ∧
  (∀ (i : Instr) (s : State), ∃ t, exec i s = .next t) ∧
  (∀ (s : State) (r : Fault), step s ≠ .fault r)

/-- R61: inside a table the read answers the byte of `cfg` at that index. That a read outside the table
answers nothing is the model's reading (log 8): R60 has no location there, and R61 speaks of indices
inside the table only. -/
def Obligations.TableReadReturnsConfiguredByte : Prop :=
  ∀ (c : Config) (t : TableId) (i : Nat),
    (∀ h : i < (tableBytes c t).length, memRead c t i = some (tableBytes c t)[i]) ∧
    ((tableBytes c t).length ≤ i → memRead c t i = none)

/-- R70, R200: no operation changes the tables or any constant of `cfg`. That none takes a stimulus word
by itself, `RESET` included, is the model's choice (logs 2 and 16): the waiting stimuli are a field of the
model's own. -/
def Obligations.OperationsKeepTablesAndConfig : Prop :=
  ∀ (i : Instr) (s : State), ∃ t, exec i s = .next t ∧ t.cfg = s.cfg ∧ t.stimuli = s.stimuli ∧
    ∀ (tb : TableId) (j : Nat), memRead t.cfg tb j = memRead s.cfg tb j

/-- R7, R36: the numbers name the registers one to one, a write of a value that fits is read back, and no
other register changes. -/
def Obligations.RegisterWriteReadsBack : Prop :=
  (∀ r : Reg, regOf (regNumber r) = some r) ∧
  (∀ (s : State) (r : Reg) (v : Nat), v < 2 ^ regWidth r →
    readReg (writeReg s r v) r = v ∧
    ∀ r' : Reg, r' ≠ r → readReg (writeReg s r v) r' = readReg s r')

/-! ## RESET and IDLE -/

/-- R200: `RESET` puts every register at zero, in any state, and keeps `cfg`; within it the spec's own
decision D26. That it keeps the waiting stimuli and the count of free values drawn is the model's choice
(log 16): they are fields of the model's own. -/
def Obligations.ResetClearsEveryRegister : Prop :=
  ∀ s : State, exec .reset s = .next
    { event := eventCode .none, sensorEn := false, motorDuty := 0#8, rampCount := 0#16,
      soundCount := 0#16, idx := 0#16, fade := 0#8, delay := 0#16, amp := 0#8, sensorCount := 0#16,
      windowCount := 0#16, motorPwm := 0#8, audioPwm := 0#8,
      cfg := s.cfg, stimuli := s.stimuli, freeCount := s.freeCount }

/-- R43, R240: the state right after reset has all thirteen registers zero, `event` None, and the phase
derived from it is None. -/
def Obligations.ResetStateIsZero : Prop :=
  registers State.reset = List.replicate 13 0 ∧ State.reset.event = eventCode .none ∧
  selectedPhase State.reset = .none ∧
  (∀ c : Config, selectedPhase { State.reset with cfg := c } = .none)

/-- R201: `IDLE` is the identity, and dropping every `IDLE` changes no later state and no output. Within
it the spec's own decision D27. -/
def Obligations.IdleIsIdentityAndDroppable : Prop :=
  (∀ s : State, exec .idle s = .next s) ∧
  (∀ (is : List Instr) (s : State),
    runOps is s = runOps (is.filter fun i => decide (i ≠ .idle)) s ∧
    (traceOps is s).filterMap Observation.outputs =
      (traceOps (is.filter fun i => decide (i ≠ .idle)) s).filterMap Observation.outputs)

/-! ## PINCHG -/

/-- R113, R116: a debounced Button1 press (no Button2 press in the same invocation) from any event but
Button1Pressed starts a run: the event, the seven counters, `sensor_en`, and nothing else. Within it the
spec's own decision D10. -/
def Obligations.Button1PressStartsRun : Prop :=
  ∀ (f2 h2 : Bool) (s : State), pressed f2 h2 = false → s.event ≠ eventCode .button1Pressed →
    exec (.pinchg true true f2 h2) s = .next { s with
      event := eventCode .button1Pressed, sensorEn := true, rampCount := 0#16, soundCount := 0#16,
      idx := 0#16, fade := 0#8, delay := 0#16, sensorCount := 0#16, windowCount := 0#16 }

/-- R114, R116: a debounced Button1 press in Button1Pressed whose guard holds stops the run. Within it the
spec's own decision D10. -/
def Obligations.Button1PressStopsRun : Prop :=
  ∀ (f2 h2 : Bool) (s : State), pressed f2 h2 = false → s.event = eventCode .button1Pressed →
    s.cfg.tStopped ≤ s.soundCount.toNat →
    exec (.pinchg true true f2 h2) s = .next { s with
      event := eventCode .button1Released, sensorEn := false, rampCount := 0#16, soundCount := 0#16,
      idx := 0#16, fade := 0#8, delay := 0#16, sensorCount := 0#16, windowCount := 0#16 }

/-- R115: a debounced Button1 press in Button1Pressed whose guard fails changes nothing. -/
def Obligations.EarlyButton1PressIgnored : Prop :=
  ∀ (f2 h2 : Bool) (s : State), pressed f2 h2 = false → s.event = eventCode .button1Pressed →
    s.soundCount.toNat < s.cfg.tStopped → exec (.pinchg true true f2 h2) s = .next s

/-- R117: a debounced Button2 press clears `sound_count` and sets Button2Pressed, whatever the event, and
changes nothing else (no Button1 press in the same invocation). -/
def Obligations.Button2PressClearsSoundCount : Prop :=
  ∀ (f1 h1 : Bool) (s : State), pressed f1 h1 = false →
    exec (.pinchg f1 h1 true true) s =
      .next { s with soundCount := 0#16, event := eventCode .button2Pressed }

/-- R118: an invocation without a falling button edge turns Button2Pressed into Button2Released, and
changes nothing else. Within it the spec's own decision D9. -/
def Obligations.ReleaseNeedsNoFallingEdge : Prop :=
  ∀ (h1 h2 : Bool) (s : State), s.event = eventCode .button2Pressed →
    exec (.pinchg false h1 false h2) s = .next { s with event := eventCode .button2Released }

/-- R120: without a debounced press, an invocation with a falling edge, or in any event but Button2Pressed,
changes no register. -/
def Obligations.UnqualifiedInvocationIgnored : Prop :=
  ∀ (f1 h1 f2 h2 : Bool) (s : State), pressed f1 h1 = false → pressed f2 h2 = false →
    ((f1 = true ∨ f2 = true) ∨ s.event ≠ eventCode .button2Pressed) →
    exec (.pinchg f1 h1 f2 h2) s = .next s

/-- R112 (corner case), U9: both buttons pressed in one invocation end in Button2Pressed, and `sensor_en`
and the counters are as the Button1 step left them, but for `sound_count`. -/
def Obligations.BothButtonsEndInButton2Pressed : Prop :=
  ∀ s : State, exec (.pinchg true true true true) s = .next
    (if s.event = eventCode .button1Pressed ∧ s.soundCount.toNat < s.cfg.tStopped then
      { s with soundCount := 0#16, event := eventCode .button2Pressed }
    else
      { s with
        event := eventCode .button2Pressed
        sensorEn := decide (s.event ≠ eventCode .button1Pressed)
        rampCount := 0#16, soundCount := 0#16, idx := 0#16, fade := 0#8, delay := 0#16
        sensorCount := 0#16, windowCount := 0#16 })

/-- R94 with R112 to R120: what each pseudo-operation does, in every state. -/
def Obligations.PseudoOperationResults : Prop :=
  ∀ s : State,
    exec .press1 s = .next
      (if s.event ≠ eventCode .button1Pressed then
        { s with
          event := eventCode .button1Pressed, sensorEn := true, rampCount := 0#16
          soundCount := 0#16, idx := 0#16, fade := 0#8, delay := 0#16, sensorCount := 0#16
          windowCount := 0#16 }
      else if s.cfg.tStopped ≤ s.soundCount.toNat then
        { s with
          event := eventCode .button1Released, sensorEn := false, rampCount := 0#16
          soundCount := 0#16, idx := 0#16, fade := 0#8, delay := 0#16, sensorCount := 0#16
          windowCount := 0#16 }
      else s) ∧
    exec .bounce1 s = .next s ∧
    exec .bounce2 s = .next s ∧
    exec .press2 s = .next { s with soundCount := 0#16, event := eventCode .button2Pressed } ∧
    exec .press12 s = .next
      (if s.event = eventCode .button1Pressed ∧ s.soundCount.toNat < s.cfg.tStopped then
        { s with soundCount := 0#16, event := eventCode .button2Pressed }
      else
        { s with
          event := eventCode .button2Pressed
          sensorEn := decide (s.event ≠ eventCode .button1Pressed)
          rampCount := 0#16, soundCount := 0#16, idx := 0#16, fade := 0#8, delay := 0#16
          sensorCount := 0#16, windowCount := 0#16 }) ∧
    exec .other s = .next
      (if s.event = eventCode .button2Pressed then { s with event := eventCode .button2Released }
      else s) ∧
    exec .release2 s = .next
      (if s.event = eventCode .button2Pressed then { s with event := eventCode .button2Released }
      else s)

/-- R121: `PINCHG` never writes the duty, the amplitude or the outputs, never writes None or
SensorMissing, increments no counter, and reads no register but `event` and `sound_count`: two states that
agree on these two (and on `cfg`) are written alike. That it keeps the waiting stimuli and the count of
free values drawn, fields of the model's own, is the model's choice (logs 2 and 7), not R121's; that it
keeps `cfg` is R70's. -/
def Obligations.PinchgWritesAndReadsOnlyItsOwn : Prop :=
  ∀ (f1 h1 f2 h2 : Bool) (s : State), ∃ t, exec (.pinchg f1 h1 f2 h2) s = .next t ∧
    t.motorDuty = s.motorDuty ∧ t.amp = s.amp ∧ t.motorPwm = s.motorPwm ∧ t.audioPwm = s.audioPwm ∧
    t.cfg = s.cfg ∧ t.stimuli = s.stimuli ∧ t.freeCount = s.freeCount ∧
    (t.event ≠ s.event → t.event ≠ eventCode .none ∧ t.event ≠ eventCode .sensorMissing) ∧
    (∀ r ∈ [Reg.rampCount, .soundCount, .idx, .fade, .delay, .sensorCount, .windowCount],
      readReg t r = readReg s r ∨ readReg t r = 0) ∧
    ∀ s' : State, s'.event = s.event → s'.soundCount = s.soundCount → s'.cfg = s.cfg →
      ∃ t', exec (.pinchg f1 h1 f2 h2) s' = .next t' ∧
        ∀ r : Reg, readReg t' r = readReg t r ∨
          (readReg t r = readReg s r ∧ readReg t' r = readReg s' r)

/-- R91 (a): a hold bit without its fall bit changes nothing in what `PINCHG` does. -/
def Obligations.HoldWithoutFallIgnored : Prop :=
  ∀ (f1 h1 f2 h2 : Bool) (s : State),
    exec (.pinchg f1 h1 f2 h2) s = exec (.pinchg f1 (f1 && h1) f2 (f2 && h2)) s ∧
    Instr.canonical (.pinchg f1 (f1 && h1) f2 (f2 && h2)) = true

/-- R91 (b), R152, R165: codes 6 and 7 of `event` are never produced from another code; handed one, the
block does no ramp action, is silent, and a Button1 press starts a run. -/
def Obligations.ReservedEventCodesAreHandled : Prop :=
  (∀ (i : Instr) (s : State), ∃ t, exec i s = .next t ∧ (5 < t.event.toNat → t.event = s.event)) ∧
  (∀ s : State, 5 < s.event.toNat →
    (∀ level : Bool, ∃ t, exec (.tick level) s = .next t ∧ t.event = s.event ∧
      t.motorDuty = s.motorDuty ∧ t.rampCount = s.rampCount ∧ t.amp = 0#8) ∧
    (∃ t, exec .press1 s = .next t ∧ t.event = eventCode .button1Pressed ∧ t.sensorEn = true))

/-! ## The event and the sensor enable -/

/-- R122 (which the spec marks as derived): by which operation each event can be entered. -/
def Obligations.EventEntryCauses : Prop :=
  ∀ (i : Instr) (s : State), s.event.toNat ≤ 5 → ∃ t, exec i s = .next t ∧ t.event.toNat ≤ 5 ∧
    (t.event = eventCode .none → i = .reset ∨ s.event = eventCode .none) ∧
    (t.event = eventCode .sensorMissing → s.event = eventCode .sensorMissing ∨
      (s.event = eventCode .button1Pressed ∧ ∃ level, i = .tick level)) ∧
    (t.event = eventCode .button1Pressed → s.event = eventCode .button1Pressed ∨
      ∃ f2 h2, i.expand = .pinchg true true f2 h2) ∧
    (t.event = eventCode .button1Released → s.event = eventCode .button1Released ∨
      (s.event = eventCode .button1Pressed ∧ s.cfg.tStopped ≤ s.soundCount.toNat ∧
        ∃ f2 h2, i.expand = .pinchg true true f2 h2)) ∧
    (t.event = eventCode .button2Pressed → s.event = eventCode .button2Pressed ∨
      ∃ f1 h1, i.expand = .pinchg f1 h1 true true) ∧
    (t.event = eventCode .button2Released → s.event = eventCode .button2Released ∨
      (s.event = eventCode .button2Pressed ∧ ∃ h1 h2, i.expand = .pinchg false h1 false h2))

/-- R22, R123: `sensor_en` rises only with a Button1 press that starts a run, and falls only with a Button1
press that stops one or with `RESET`. -/
def Obligations.SensorEnableChangesOnButton1Only : Prop :=
  ∀ (i : Instr) (s : State), ∃ t, exec i s = .next t ∧
    (s.sensorEn = false → t.sensorEn = true →
      s.event ≠ eventCode .button1Pressed ∧ ∃ f2 h2, i.expand = .pinchg true true f2 h2) ∧
    (s.sensorEn = true → t.sensorEn = false → i = .reset ∨
      (s.event = eventCode .button1Pressed ∧ s.cfg.tStopped ≤ s.soundCount.toNat ∧
        ∃ f2 h2, i.expand = .pinchg true true f2 h2))

/-! ## TICK -/

/-- R132, R133, R134: the sensor watch of a tick, in every state. Within it the spec's own decisions D11,
D12. -/
def Obligations.TickWatchesSensor : Prop :=
  ∀ (level : Bool) (s : State), ∃ t, exec (.tick level) s = .next t ∧
    (s.cfg.ticksPerWindow ≤ min (s.windowCount.toNat + 1) wordMax →
      t.sensorCount = 0#16 ∧ t.windowCount = 0#16 ∧
      (s.event = eventCode .button1Pressed → s.sensorCount = 0#16 →
        ¬(s.sensorEn = true ∧ level = true) → t.event = eventCode .sensorMissing) ∧
      (s.event ≠ eventCode .button1Pressed ∨ s.sensorCount ≠ 0#16 ∨
        (s.sensorEn = true ∧ level = true) → t.event = s.event)) ∧
    (min (s.windowCount.toNat + 1) wordMax < s.cfg.ticksPerWindow →
      t.event = s.event ∧ t.windowCount.toNat = min (s.windowCount.toNat + 1) wordMax ∧
      (s.sensorEn = true ∧ level = true →
        t.sensorCount.toNat = min (s.sensorCount.toNat + 1) wordMax) ∧
      (¬(s.sensorEn = true ∧ level = true) → t.sensorCount = s.sensorCount))

/-- R132 (corner case), U4: with the sensor line disabled the level sampled at a tick has no effect. -/
def Obligations.SensorLevelIgnoredWhenDisabled : Prop :=
  ∀ s : State, s.sensorEn = false → exec (.tick true) s = exec (.tick false) s

/-- R146 to R152: the motor ramp of a tick, by the event `t.event` that the sensor watch of that tick
left. Within it the spec's own decisions D13 to D15. -/
def Obligations.TickRampsMotor : Prop :=
  ∀ (level : Bool) (s : State), ∃ t, exec (.tick level) s = .next t ∧
    (t.event = eventCode .button1Pressed → s.motorDuty.toNat < 255 → s.rampCount = 0#16 →
      t.motorDuty = s.cfg.motorStart ∧ t.rampCount = 1#16) ∧
    (t.event = eventCode .button1Pressed → s.motorDuty.toNat < 255 → s.rampCount ≠ 0#16 →
      s.cfg.n1 ≤ s.rampCount.toNat →
      t.motorDuty.toNat = s.motorDuty.toNat + 1 ∧ t.rampCount = 1#16) ∧
    (t.event = eventCode .button1Pressed → s.motorDuty.toNat < 255 → s.rampCount ≠ 0#16 →
      s.rampCount.toNat < s.cfg.n1 →
      t.motorDuty = s.motorDuty ∧ t.rampCount.toNat = min (s.rampCount.toNat + 1) wordMax) ∧
    (t.event = eventCode .button1Pressed → s.motorDuty.toNat = 255 →
      t.motorDuty = s.motorDuty ∧ t.rampCount = s.rampCount) ∧
    (t.event = eventCode .button1Released → 0 < s.motorDuty.toNat →
      s.cfg.n2 ≤ s.rampCount.toNat + 1 →
      t.motorDuty.toNat + 1 = s.motorDuty.toNat ∧ t.rampCount = 0#16) ∧
    (t.event = eventCode .button1Released → 0 < s.motorDuty.toNat →
      s.rampCount.toNat + 1 < s.cfg.n2 →
      t.motorDuty = s.motorDuty ∧ t.rampCount.toNat = min (s.rampCount.toNat + 1) wordMax) ∧
    (t.event = eventCode .button1Released → s.motorDuty.toNat = 0 →
      t.motorDuty = s.motorDuty ∧ t.rampCount = s.rampCount) ∧
    (t.event = eventCode .button2Pressed ∨ t.event = eventCode .sensorMissing ∨
      t.event = eventCode .button2Released → t.motorDuty = 0#8 ∧ t.rampCount = s.rampCount) ∧
    (t.event = eventCode .none ∨ 5 < t.event.toNat →
      t.motorDuty = s.motorDuty ∧ t.rampCount = s.rampCount)

/-- R153 (which the spec marks as derived), R45: a tick changes the duty by at most one, but for the start jump and the forced stop; in
particular it never wraps. -/
def Obligations.DutyMovesByOneOrJumps : Prop :=
  ∀ (level : Bool) (s : State), ∃ t, exec (.tick level) s = .next t ∧
    (t.motorDuty.toNat ≤ s.motorDuty.toNat + 1 ∧ s.motorDuty.toNat ≤ t.motorDuty.toNat + 1 ∨
      (t.event = eventCode .button1Pressed ∧ s.rampCount = 0#16 ∧ t.motorDuty = s.cfg.motorStart) ∨
      ((t.event = eventCode .button2Pressed ∨ t.event = eventCode .sensorMissing ∨
        t.event = eventCode .button2Released) ∧ t.motorDuty = 0#8))

/-- R135: every tick ends with the write of both outputs, and no operation but `TICK` and `RESET` changes
them; within it the spec's own decision D24. With it the frame of `TICK`, which R135 does not say:
`sensor_en` is only read (R22, R130), `cfg` is not written (R70), and the waiting stimuli are kept, which
is the model's choice (log 2), as they are a field of its own. -/
def Obligations.OutputsWrittenByTickOnly : Prop :=
  (∀ (level : Bool) (s : State), ∃ t, exec (.tick level) s = .next t ∧
    t.motorPwm = t.motorDuty ∧ t.audioPwm = t.amp ∧
    t.sensorEn = s.sensorEn ∧ t.cfg = s.cfg ∧ t.stimuli = s.stimuli) ∧
  (∀ (i : Instr) (s : State), (∀ level, i ≠ .tick level) → i ≠ .reset →
    ∃ t, exec i s = .next t ∧ t.motorPwm = s.motorPwm ∧ t.audioPwm = s.audioPwm)

/-- R162 to R165: the phase function, for every configuration, event and count; in a well-formed
configuration the windows exclude each other and come after Starting, so no order of tests matters. Within
it the spec's own decisions D15, D16. -/
def Obligations.PhaseFollowsSchedule : Prop :=
  ∀ (c : Config) (n : Nat),
    (phase c (eventCode .button1Pressed) n = .starting ↔ n < c.tStarted) ∧
    (phase c (eventCode .button1Pressed) n = .ringing ↔ c.tStarted ≤ n ∧
      ((c.r1Lo ≤ n ∧ n < c.r1Hi) ∨ (c.r2Lo ≤ n ∧ n < c.r2Hi))) ∧
    (phase c (eventCode .button1Pressed) n = .whistling ↔ c.tStarted ≤ n ∧
      ¬(c.r1Lo ≤ n ∧ n < c.r1Hi) ∧ ¬(c.r2Lo ≤ n ∧ n < c.r2Hi) ∧ (c.wLo ≤ n ∧ n < c.wHi)) ∧
    (phase c (eventCode .button1Pressed) n = .running ↔ c.tStarted ≤ n ∧
      ¬(c.r1Lo ≤ n ∧ n < c.r1Hi) ∧ ¬(c.r2Lo ≤ n ∧ n < c.r2Hi) ∧ ¬(c.wLo ≤ n ∧ n < c.wHi)) ∧
    (c.WF → (c.wLo ≤ n ∧ n < c.wHi → phase c (eventCode .button1Pressed) n = .whistling) ∧
      ((c.r1Lo ≤ n ∧ n < c.r1Hi) ∨ (c.r2Lo ≤ n ∧ n < c.r2Hi) →
        phase c (eventCode .button1Pressed) n = .ringing)) ∧
    (n < c.tStopped → phase c (eventCode .button1Released) n = .stopping) ∧
    (c.tStopped ≤ n → phase c (eventCode .button1Released) n = .none) ∧
    phase c (eventCode .button2Pressed) n = .whistling ∧
    (∀ e : BitVec 3, e ≠ eventCode .button1Pressed → e ≠ eventCode .button1Released →
      e ≠ eventCode .button2Pressed → phase c e n = .none)

/-- R166: the table each phase selects, and its length. -/
def Obligations.TableFollowsPhase : Prop :=
  ∀ c : Config,
    tableOf .starting = some .engine ∧ tableOf .running = some .engine ∧
    tableOf .stopping = some .engine ∧ tableOf .ringing = some .bell ∧
    tableOf .whistling = some .whistle ∧
    tableLen c .engine = c.engine.length ∧ tableLen c .bell = c.bell.length ∧
    tableLen c .whistle = c.whistle.length

/-- R161: the rewind of a tick whose sensor watch left the event `t.event`. The count `n` from which the
tick goes on is `T_STARTED` if a run had reached `R2_HI`, and the old count otherwise; on every tick that
takes no end-of-pass branch `n` is the count the tick leaves, and on the tick that ends a pass it is the
count that tick increments (R183). A `T_STARTED` above the register is narrowed by saturation, which is
the model's reading (log 6). -/
def Obligations.TickRewindsSchedule : Prop :=
  ∀ (level : Bool) (s : State), ∃ t, exec (.tick level) s = .next t ∧
    ∀ n : Nat,
      (t.event = eventCode .button1Pressed → s.cfg.r2Hi ≤ s.soundCount.toNat →
        n = min s.cfg.tStarted wordMax) →
      (t.event ≠ eventCode .button1Pressed ∨ s.soundCount.toNat < s.cfg.r2Hi →
        n = s.soundCount.toNat) →
      (phase s.cfg t.event n = .none ∨ s.delay ≠ 0#16 ∨
        (∀ tb : TableId, tableOf (phase s.cfg t.event n) = some tb →
          s.idx.toNat < tableLen s.cfg tb) →
        t.soundCount.toNat = n) ∧
      (∀ tb : TableId, tableOf (phase s.cfg t.event n) = some tb → s.delay = 0#16 →
        tableLen s.cfg tb ≤ s.idx.toNat → t.soundCount.toNat = min (n + 1) wordMax)

/-- R176: a tick in phase None forces the amplitude to 0 and freezes the cursor. Within it the spec's own
decision D17. That it draws no free value is the model's choice (log 7), about a count of its own. -/
def Obligations.TickInPhaseNoneIsSilent : Prop :=
  ∀ (level : Bool) (s : State), ∃ t, exec (.tick level) s = .next t ∧
    (tickPhase s t.event = .none →
      t.amp = 0#8 ∧ t.idx = s.idx ∧ t.fade = s.fade ∧ t.delay = s.delay ∧
      t.soundCount = s.soundCount ∧ t.freeCount = s.freeCount)

/-- R177: a tick with a pause left, in a phase other than None, only counts it down (after the rewind).
That it draws no free value is the model's choice (log 7), about a count of its own. -/
def Obligations.TickCountsPauseDown : Prop :=
  ∀ (level : Bool) (s : State), ∃ t, exec (.tick level) s = .next t ∧
    (tickPhase s t.event ≠ .none → 0 < s.delay.toNat →
      t.delay.toNat + 1 = s.delay.toNat ∧ t.amp = s.amp ∧ t.idx = s.idx ∧ t.fade = s.fade ∧
      t.soundCount = countAfterRewind s.cfg t.event s.soundCount ∧ t.freeCount = s.freeCount)

/-- R178 to R182: the end-of-pass tick loads the pause of its phase from the count before the increment,
returns the cursor to 0 and counts the pass. Within it the spec's own decisions D18 to D20. That it draws
no free value is the model's choice (log 7), about a count of its own. -/
def Obligations.TickEndsPass : Prop :=
  ∀ (level : Bool) (s : State), ∃ t, exec (.tick level) s = .next t ∧
    (∀ (tb : TableId) (n : Nat), tableOf (tickPhase s t.event) = some tb → s.delay = 0#16 →
      tableLen s.cfg tb ≤ s.idx.toNat →
      n = (countAfterRewind s.cfg t.event s.soundCount).toNat →
      t.idx = 0#16 ∧ t.fade = 0#8 ∧ t.amp = s.amp ∧ t.soundCount.toNat = min (n + 1) wordMax ∧
      t.freeCount = s.freeCount ∧
      (tickPhase s t.event = .starting →
        t.delay.toNat = min (s.cfg.delayMax - n * s.cfg.delayInc) wordMax) ∧
      (tickPhase s t.event = .running → t.delay.toNat = min s.cfg.delayMin wordMax) ∧
      (tickPhase s t.event = .stopping →
        t.delay.toNat = min (s.cfg.delayMin + n * s.cfg.delayInc) wordMax) ∧
      (tickPhase s t.event = .ringing ∨ tickPhase s t.event = .whistling → t.delay = 0#16))

/-- R184, R185: a fade-in tick, at index 0 under the fade condition; `b` is the table's first byte. The
value after an increment of 255, which the spec does not state, is the model's free value (log 7). -/
def Obligations.TickFadesIn : Prop :=
  ∀ (level : Bool) (s : State), ∃ t, exec (.tick level) s = .next t ∧
    (∀ (tb : TableId) (n : Nat) (b v : Byte), tableOf (tickPhase s t.event) = some tb →
      s.delay = 0#16 → s.idx = 0#16 → memRead s.cfg tb 0 = some b →
      n = (countAfterRewind s.cfg t.event s.soundCount).toNat →
      (tickPhase s t.event = .starting ∨ tickPhase s t.event = .running ∨
        tickPhase s t.event = .stopping ∨ n = s.cfg.r1Lo ∨ n = s.cfg.wLo ∨ n = s.cfg.r2Lo) →
      (s.fade ≠ 255#8 → v.toNat = s.fade.toNat + 1) →
      (s.fade = 255#8 → v = Config.freeFade s.freeCount) →
      t.amp = v ∧ t.soundCount.toNat = n ∧ t.delay = 0#16 ∧
      (b.toNat ≤ v.toNat → t.idx = 1#16 ∧ t.fade = 0#8) ∧
      (v.toNat < b.toNat → t.idx = 0#16 ∧ t.fade = v))

/-- R186: a fade-out tick, at the last index where the fade-in does not apply; `b` is the table's last
byte. The value after an increment of 255, which the spec does not state, is the model's free value
(log 7); so is the narrowing of a length above the register (log 5). -/
def Obligations.TickFadesOut : Prop :=
  ∀ (level : Bool) (s : State), ∃ t, exec (.tick level) s = .next t ∧
    (∀ (tb : TableId) (n : Nat) (b v : Byte), tableOf (tickPhase s t.event) = some tb →
      s.delay = 0#16 → s.idx.toNat + 1 = tableLen s.cfg tb → memRead s.cfg tb s.idx.toNat = some b →
      n = (countAfterRewind s.cfg t.event s.soundCount).toNat →
      (s.idx ≠ 0#16 ∨ ((tickPhase s t.event = .ringing ∨ tickPhase s t.event = .whistling) ∧
        n ≠ s.cfg.r1Lo ∧ n ≠ s.cfg.wLo ∧ n ≠ s.cfg.r2Lo)) →
      (s.fade ≠ 255#8 → v.toNat = s.fade.toNat + 1) →
      (s.fade = 255#8 → v = Config.freeFade s.freeCount) →
      t.amp.toNat = b.toNat - v.toNat ∧ t.soundCount.toNat = n ∧ t.delay = 0#16 ∧
      (b.toNat ≤ v.toNat →
        t.idx.toNat = min (tableLen s.cfg tb) wordMax ∧ t.fade = 0#8) ∧
      (v.toNat < b.toNat → t.idx = s.idx ∧ t.fade = v))

/-- R187: at every other index the raw byte is played for one tick and the index advances (an index at the
top of its register, which only a table longer than R6 (h) allows can reach, is left out). Within it the
spec's own decision D23. That it draws no free value is the model's choice (log 7), about a count of its
own. -/
def Obligations.TickPlaysByte : Prop :=
  ∀ (level : Bool) (s : State), ∃ t, exec (.tick level) s = .next t ∧
    (∀ (tb : TableId) (n : Nat) (b : Byte), tableOf (tickPhase s t.event) = some tb →
      s.delay = 0#16 → s.idx.toNat + 1 < tableLen s.cfg tb → memRead s.cfg tb s.idx.toNat = some b →
      n = (countAfterRewind s.cfg t.event s.soundCount).toNat →
      (s.idx ≠ 0#16 ∨ ((tickPhase s t.event = .ringing ∨ tickPhase s t.event = .whistling) ∧
        n ≠ s.cfg.r1Lo ∧ n ≠ s.cfg.wLo ∧ n ≠ s.cfg.r2Lo)) →
      t.amp = b ∧ (s.idx.toNat < wordMax → t.idx.toNat = s.idx.toNat + 1) ∧ t.fade = 0#8 ∧
      t.delay = 0#16 ∧ t.soundCount.toNat = n ∧ t.freeCount = s.freeCount)

/-- R179 to R181, R191, R6 (g): with a well-formed configuration no pause is truncated or saturated. -/
def Obligations.PausesExactWhenWellFormed : Prop :=
  ∀ (c : Config) (n : Nat), c.WF →
    (n < c.tStarted → (passDelay c .starting n).toNat + n * c.delayInc = c.delayMax) ∧
    (passDelay c .running n).toNat = c.delayMin ∧
    (n < c.tStopped → (passDelay c .stopping n).toNat = c.delayMin + n * c.delayInc)

/-- R211: in a tick that leaves SensorMissing, and in every later tick until the event is changed, the motor
is stopped and the sound silent, `sensor_en` stays; a press of either button, or `RESET`, leaves it. -/
def Obligations.SensorMissingStopsMotorAndSound : Prop :=
  (∀ (level : Bool) (s : State), ∃ t, exec (.tick level) s = .next t ∧
    (t.event = eventCode .sensorMissing →
      t.motorDuty = 0#8 ∧ t.amp = 0#8 ∧ t.motorPwm = 0#8 ∧ t.audioPwm = 0#8 ∧
      t.sensorEn = s.sensorEn) ∧
    (s.event = eventCode .sensorMissing → t.event = eventCode .sensorMissing)) ∧
  (∀ s : State, s.event = eventCode .sensorMissing →
    (∃ t, exec .press1 s = .next t ∧ t.event = eventCode .button1Pressed) ∧
    (∃ t, exec .press2 s = .next t ∧ t.event = eventCode .button2Pressed) ∧
    (∃ t, exec .reset s = .next t ∧ t.event = eventCode .none))

/-- R189 (a), R245, R246: a Button2 press in mid pass reaches the outputs at the next tick, whose whistle
goes on from the pause, cursor and fade of the table it interrupted. -/
def Obligations.WhistleInheritsCursor : Prop :=
  ∀ (level : Bool) (s : State), s.cfg.WF → s.fade.toNat ≤ 254 →
    ∃ t u, exec .press2 s = .next t ∧ t.motorPwm = s.motorPwm ∧ exec (.tick level) t = .next u ∧
      u.event = eventCode .button2Pressed ∧ u.motorDuty = 0#8 ∧ u.motorPwm = 0#8 ∧
      (0 < s.delay.toNat → u.delay.toNat + 1 = s.delay.toNat ∧ u.idx = s.idx ∧ u.fade = s.fade ∧
        u.amp = s.amp ∧ u.soundCount = 0#16) ∧
      (s.delay = 0#16 → s.cfg.whistle.length ≤ s.idx.toNat →
        u.soundCount = 1#16 ∧ u.idx = 0#16 ∧ u.fade = 0#8 ∧ u.delay = 0#16 ∧ u.amp = s.amp) ∧
      (∀ b : Byte, s.delay = 0#16 → s.idx.toNat + 1 = s.cfg.whistle.length →
        memRead s.cfg .whistle s.idx.toNat = some b →
        u.amp.toNat = b.toNat - (s.fade.toNat + 1) ∧ u.soundCount = 0#16 ∧
        (b.toNat ≤ s.fade.toNat + 1 → u.idx.toNat = s.cfg.whistle.length ∧ u.fade = 0#8) ∧
        (s.fade.toNat + 1 < b.toNat → u.idx = s.idx ∧ u.fade.toNat = s.fade.toNat + 1)) ∧
      (∀ b : Byte, s.delay = 0#16 → s.idx.toNat + 1 < s.cfg.whistle.length →
        memRead s.cfg .whistle s.idx.toNat = some b →
        u.amp = b ∧ u.idx.toNat = s.idx.toNat + 1 ∧ u.fade = 0#8 ∧ u.soundCount = 0#16)

/-! ## Many ticks -/

/-- R149 (its corner case, which the spec marks as derived), R150: from a duty `d`, after `k` ticks of a stop the duty is `d - k / N2`, whatever
the sensor does; so it reaches 0 on tick `d * N2` and not before. -/
def Obligations.StopRampTakesDutyTimesN2Ticks : Prop :=
  ∀ (levels : List Bool) (s : State), s.cfg.WF → s.event = eventCode .button1Released →
    s.rampCount = 0#16 →
    ∃ t, runTicks levels s = .next t ∧ t.event = eventCode .button1Released ∧
      t.motorDuty.toNat = s.motorDuty.toNat - levels.length / s.cfg.n2

/-- R146, R147 (its corner case, which the spec marks as derived), R148: after `k` ticks of a run the duty is `MOTOR_START + (k - 1) / N1`,
never above 255, for as long as the run lasts. -/
def Obligations.StartRampClosedForm : Prop :=
  ∀ (levels : List Bool) (s : State), s.cfg.WF → s.event = eventCode .button1Pressed →
    s.rampCount = 0#16 → s.motorDuty.toNat < 255 → levels ≠ [] →
    ∃ t, runTicks levels s = .next t ∧
      (t.event = eventCode .button1Pressed →
        t.motorDuty.toNat =
          min 255 (s.cfg.motorStart.toNat + (levels.length - 1) / s.cfg.n1))

/-- R133, R134, R137 (which the spec marks as derived): in a run with the sensor line enabled and a fresh window, SensorMissing is written
exactly on the tick that ends the window, and exactly if the level was 0 on every tick of it. -/
def Obligations.SensorMissingIffWindowSilent : Prop :=
  ∀ (levels : List Bool) (s : State), s.cfg.WF → s.event = eventCode .button1Pressed →
    s.sensorEn = true → s.sensorCount = 0#16 → s.windowCount = 0#16 →
    levels.length ≤ s.cfg.ticksPerWindow →
    ∃ t, runTicks levels s = .next t ∧
      (levels.length < s.cfg.ticksPerWindow → t.event = eventCode .button1Pressed ∧
        t.windowCount.toNat = levels.length ∧ t.sensorCount.toNat = levels.count true) ∧
      (levels.length = s.cfg.ticksPerWindow → t.windowCount = 0#16 ∧ t.sensorCount = 0#16 ∧
        ((∀ l ∈ levels, l = false) → t.event = eventCode .sensorMissing) ∧
        ((∃ l ∈ levels, l = true) → t.event = eventCode .button1Pressed))

/-- R185: the fade-in of a first byte `b` is the sequence 1, ..., `b` on `b` engine ticks, and the index
advances with the last of them. -/
def Obligations.FadeInCountsUp : Prop :=
  ∀ (p : Phase) (tb : TableId) (b : Byte) (k : Nat) (s : State), tableOf p = some tb →
    memRead s.cfg tb 0 = some b → s.delay = 0#16 → s.idx = 0#16 → s.fade = 0#8 →
    fadeCond s.cfg p s.soundCount.toNat = true → 1 ≤ k → k ≤ b.toNat →
    ∃ t, playMany p k s = some t ∧ t.amp.toNat = k ∧ t.soundCount = s.soundCount ∧
      t.delay = 0#16 ∧ t.cfg = s.cfg ∧
      (k < b.toNat → t.idx = 0#16 ∧ t.fade.toNat = k) ∧
      (k = b.toNat → t.idx = 1#16 ∧ t.fade = 0#8)

/-- R186: the fade-out of a last byte `b` is the sequence `b - 1`, ..., 0 on `b` engine ticks, and the
cursor stands past the table with the last of them. -/
def Obligations.FadeOutCountsDown : Prop :=
  ∀ (p : Phase) (tb : TableId) (b : Byte) (k : Nat) (s : State), tableOf p = some tb →
    wfTable (tableBytes s.cfg tb) → s.idx.toNat + 1 = tableLen s.cfg tb →
    memRead s.cfg tb s.idx.toNat = some b → s.delay = 0#16 → s.fade = 0#8 →
    1 ≤ k → k ≤ b.toNat →
    ∃ t, playMany p k s = some t ∧ t.amp.toNat = b.toNat - k ∧ t.soundCount = s.soundCount ∧
      t.delay = 0#16 ∧ t.cfg = s.cfg ∧
      (k < b.toNat → t.idx = s.idx ∧ t.fade.toNat = k) ∧
      (k = b.toNat → t.idx.toNat = tableLen s.cfg tb ∧ t.fade = 0#8)

/-- R190 (which the spec marks as derived): the length of a pass. A pass entered at the start of a table of length `L` with first byte `b0`
and last byte `b1` takes `b0 + (L - 2) + b1` engine ticks if it is faded in and `1 + (L - 2) + b1` if
not, then one end-of-pass tick, then the pause that tick loaded, and the next pass can begin; the
amplitude is 0 from the last fade-out tick on. -/
def Obligations.PassTakesItsLength : Prop :=
  ∀ (p : Phase) (tb : TableId) (b0 b1 : Byte) (s : State), tableOf p = some tb →
    wfTable (tableBytes s.cfg tb) → memRead s.cfg tb 0 = some b0 →
    memRead s.cfg tb (tableLen s.cfg tb - 1) = some b1 →
    s.delay = 0#16 → s.idx = 0#16 → s.fade = 0#8 →
    ∀ k : Nat,
      k = (if fadeCond s.cfg p s.soundCount.toNat = true then b0.toNat else 1) +
        (tableLen s.cfg tb - 2) + b1.toNat →
      (∀ j : Nat, j < k → ∃ t, playMany p j s = some t ∧ t.idx.toNat < tableLen s.cfg tb ∧
        t.soundCount = s.soundCount) ∧
      (∃ t, playMany p k s = some t ∧ t.idx.toNat = tableLen s.cfg tb ∧ t.amp = 0#8 ∧
        t.soundCount = s.soundCount) ∧
      (∀ j : Nat, j ≤ (passDelay s.cfg p s.soundCount.toNat).toNat →
        ∃ t, playMany p (k + 1 + j) s = some t ∧ t.idx = 0#16 ∧ t.fade = 0#8 ∧ t.amp = 0#8 ∧
          t.delay.toNat + j = (passDelay s.cfg p s.soundCount.toNat).toNat ∧
          t.soundCount.toNat = min (s.soundCount.toNat + 1) wordMax)

/-! ## The invariant -/

/-- R44 (which the spec marks as derived), with R21, R24, R26, R27, R31 to R33, R123, R152, R163: every step
of a machine with a well-formed configuration keeps the invariant, and the configuration. -/
def Obligations.StepKeepsInvariant : Prop :=
  ∀ s t : State, s.cfg.WF → Inv s → step s = .next t → Inv t ∧ t.cfg.WF

/-- R43, R44: the state after reset has the invariant, for every well-formed configuration. -/
def Obligations.ResetHasInvariant : Prop :=
  ∀ c : Config, c.WF → Inv { State.reset with cfg := c }
end

