-- ==== Sys2Proof/Laws/State.lean ====
section
/-! SUPPORT. One lemma per field for each named update of the state, so that no later proof unfolds a
record update. -/

namespace Sys2Proof.Machine
/-! `setSensorEn` (R113). -/
@[simp] theorem setSensorEn_event (s : State) : (setSensorEn s).event = s.event := rfl
@[simp] theorem setSensorEn_sensorEn (s : State) : (setSensorEn s).sensorEn = true := rfl
@[simp] theorem setSensorEn_motorDuty (s : State) : (setSensorEn s).motorDuty = s.motorDuty := rfl
@[simp] theorem setSensorEn_rampCount (s : State) : (setSensorEn s).rampCount = s.rampCount := rfl
@[simp] theorem setSensorEn_soundCount (s : State) : (setSensorEn s).soundCount = s.soundCount := rfl
@[simp] theorem setSensorEn_idx (s : State) : (setSensorEn s).idx = s.idx := rfl
@[simp] theorem setSensorEn_fade (s : State) : (setSensorEn s).fade = s.fade := rfl
@[simp] theorem setSensorEn_delay (s : State) : (setSensorEn s).delay = s.delay := rfl
@[simp] theorem setSensorEn_amp (s : State) : (setSensorEn s).amp = s.amp := rfl
@[simp] theorem setSensorEn_sensorCount (s : State) : (setSensorEn s).sensorCount = s.sensorCount := rfl
@[simp] theorem setSensorEn_windowCount (s : State) : (setSensorEn s).windowCount = s.windowCount := rfl
@[simp] theorem setSensorEn_motorPwm (s : State) : (setSensorEn s).motorPwm = s.motorPwm := rfl
@[simp] theorem setSensorEn_audioPwm (s : State) : (setSensorEn s).audioPwm = s.audioPwm := rfl
@[simp] theorem setSensorEn_cfg (s : State) : (setSensorEn s).cfg = s.cfg := rfl
@[simp] theorem setSensorEn_stimuli (s : State) : (setSensorEn s).stimuli = s.stimuli := rfl
@[simp] theorem setSensorEn_freeCount (s : State) : (setSensorEn s).freeCount = s.freeCount := rfl

/-! `clearSensorEn` (R114). -/
@[simp] theorem clearSensorEn_event (s : State) : (clearSensorEn s).event = s.event := rfl
@[simp] theorem clearSensorEn_sensorEn (s : State) : (clearSensorEn s).sensorEn = false := rfl
@[simp] theorem clearSensorEn_motorDuty (s : State) : (clearSensorEn s).motorDuty = s.motorDuty := rfl
@[simp] theorem clearSensorEn_rampCount (s : State) : (clearSensorEn s).rampCount = s.rampCount := rfl
@[simp] theorem clearSensorEn_soundCount (s : State) : (clearSensorEn s).soundCount = s.soundCount := rfl
@[simp] theorem clearSensorEn_idx (s : State) : (clearSensorEn s).idx = s.idx := rfl
@[simp] theorem clearSensorEn_fade (s : State) : (clearSensorEn s).fade = s.fade := rfl
@[simp] theorem clearSensorEn_delay (s : State) : (clearSensorEn s).delay = s.delay := rfl
@[simp] theorem clearSensorEn_amp (s : State) : (clearSensorEn s).amp = s.amp := rfl
@[simp] theorem clearSensorEn_sensorCount (s : State) : (clearSensorEn s).sensorCount = s.sensorCount := rfl
@[simp] theorem clearSensorEn_windowCount (s : State) : (clearSensorEn s).windowCount = s.windowCount := rfl
@[simp] theorem clearSensorEn_motorPwm (s : State) : (clearSensorEn s).motorPwm = s.motorPwm := rfl
@[simp] theorem clearSensorEn_audioPwm (s : State) : (clearSensorEn s).audioPwm = s.audioPwm := rfl
@[simp] theorem clearSensorEn_cfg (s : State) : (clearSensorEn s).cfg = s.cfg := rfl
@[simp] theorem clearSensorEn_stimuli (s : State) : (clearSensorEn s).stimuli = s.stimuli := rfl
@[simp] theorem clearSensorEn_freeCount (s : State) : (clearSensorEn s).freeCount = s.freeCount := rfl

/-! `clearCounters` (R116). -/
@[simp] theorem clearCounters_event (s : State) : (clearCounters s).event = s.event := rfl
@[simp] theorem clearCounters_sensorEn (s : State) : (clearCounters s).sensorEn = s.sensorEn := rfl
@[simp] theorem clearCounters_motorDuty (s : State) : (clearCounters s).motorDuty = s.motorDuty := rfl
@[simp] theorem clearCounters_rampCount (s : State) : (clearCounters s).rampCount = 0#16 := rfl
@[simp] theorem clearCounters_soundCount (s : State) : (clearCounters s).soundCount = 0#16 := rfl
@[simp] theorem clearCounters_idx (s : State) : (clearCounters s).idx = 0#16 := rfl
@[simp] theorem clearCounters_fade (s : State) : (clearCounters s).fade = 0#8 := rfl
@[simp] theorem clearCounters_delay (s : State) : (clearCounters s).delay = 0#16 := rfl
@[simp] theorem clearCounters_amp (s : State) : (clearCounters s).amp = s.amp := rfl
@[simp] theorem clearCounters_sensorCount (s : State) : (clearCounters s).sensorCount = 0#16 := rfl
@[simp] theorem clearCounters_windowCount (s : State) : (clearCounters s).windowCount = 0#16 := rfl
@[simp] theorem clearCounters_motorPwm (s : State) : (clearCounters s).motorPwm = s.motorPwm := rfl
@[simp] theorem clearCounters_audioPwm (s : State) : (clearCounters s).audioPwm = s.audioPwm := rfl
@[simp] theorem clearCounters_cfg (s : State) : (clearCounters s).cfg = s.cfg := rfl
@[simp] theorem clearCounters_stimuli (s : State) : (clearCounters s).stimuli = s.stimuli := rfl
@[simp] theorem clearCounters_freeCount (s : State) : (clearCounters s).freeCount = s.freeCount := rfl

/-! `raiseSensorMissing` (R211). -/
@[simp] theorem raiseSensorMissing_event (s : State) : (raiseSensorMissing s).event = eventCode .sensorMissing := rfl
@[simp] theorem raiseSensorMissing_sensorEn (s : State) : (raiseSensorMissing s).sensorEn = s.sensorEn := rfl
@[simp] theorem raiseSensorMissing_motorDuty (s : State) : (raiseSensorMissing s).motorDuty = s.motorDuty := rfl
@[simp] theorem raiseSensorMissing_rampCount (s : State) : (raiseSensorMissing s).rampCount = s.rampCount := rfl
@[simp] theorem raiseSensorMissing_soundCount (s : State) : (raiseSensorMissing s).soundCount = s.soundCount := rfl
@[simp] theorem raiseSensorMissing_idx (s : State) : (raiseSensorMissing s).idx = s.idx := rfl
@[simp] theorem raiseSensorMissing_fade (s : State) : (raiseSensorMissing s).fade = s.fade := rfl
@[simp] theorem raiseSensorMissing_delay (s : State) : (raiseSensorMissing s).delay = s.delay := rfl
@[simp] theorem raiseSensorMissing_amp (s : State) : (raiseSensorMissing s).amp = s.amp := rfl
@[simp] theorem raiseSensorMissing_sensorCount (s : State) : (raiseSensorMissing s).sensorCount = s.sensorCount := rfl
@[simp] theorem raiseSensorMissing_windowCount (s : State) : (raiseSensorMissing s).windowCount = s.windowCount := rfl
@[simp] theorem raiseSensorMissing_motorPwm (s : State) : (raiseSensorMissing s).motorPwm = s.motorPwm := rfl
@[simp] theorem raiseSensorMissing_audioPwm (s : State) : (raiseSensorMissing s).audioPwm = s.audioPwm := rfl
@[simp] theorem raiseSensorMissing_cfg (s : State) : (raiseSensorMissing s).cfg = s.cfg := rfl
@[simp] theorem raiseSensorMissing_stimuli (s : State) : (raiseSensorMissing s).stimuli = s.stimuli := rfl
@[simp] theorem raiseSensorMissing_freeCount (s : State) : (raiseSensorMissing s).freeCount = s.freeCount := rfl

/-! `resetRegisters` (R200). -/
@[simp] theorem resetRegisters_event (s : State) : (resetRegisters s).event = eventCode .none := rfl
@[simp] theorem resetRegisters_sensorEn (s : State) : (resetRegisters s).sensorEn = false := rfl
@[simp] theorem resetRegisters_motorDuty (s : State) : (resetRegisters s).motorDuty = 0#8 := rfl
@[simp] theorem resetRegisters_rampCount (s : State) : (resetRegisters s).rampCount = 0#16 := rfl
@[simp] theorem resetRegisters_soundCount (s : State) : (resetRegisters s).soundCount = 0#16 := rfl
@[simp] theorem resetRegisters_idx (s : State) : (resetRegisters s).idx = 0#16 := rfl
@[simp] theorem resetRegisters_fade (s : State) : (resetRegisters s).fade = 0#8 := rfl
@[simp] theorem resetRegisters_delay (s : State) : (resetRegisters s).delay = 0#16 := rfl
@[simp] theorem resetRegisters_amp (s : State) : (resetRegisters s).amp = 0#8 := rfl
@[simp] theorem resetRegisters_sensorCount (s : State) : (resetRegisters s).sensorCount = 0#16 := rfl
@[simp] theorem resetRegisters_windowCount (s : State) : (resetRegisters s).windowCount = 0#16 := rfl
@[simp] theorem resetRegisters_motorPwm (s : State) : (resetRegisters s).motorPwm = 0#8 := rfl
@[simp] theorem resetRegisters_audioPwm (s : State) : (resetRegisters s).audioPwm = 0#8 := rfl
@[simp] theorem resetRegisters_cfg (s : State) : (resetRegisters s).cfg = s.cfg := rfl
@[simp] theorem resetRegisters_stimuli (s : State) : (resetRegisters s).stimuli = s.stimuli := rfl
@[simp] theorem resetRegisters_freeCount (s : State) : (resetRegisters s).freeCount = s.freeCount := rfl

/-! `incWindow` (R133). -/
@[simp] theorem incWindow_event (s : State) : (incWindow s).event = s.event := rfl
@[simp] theorem incWindow_sensorEn (s : State) : (incWindow s).sensorEn = s.sensorEn := rfl
@[simp] theorem incWindow_motorDuty (s : State) : (incWindow s).motorDuty = s.motorDuty := rfl
@[simp] theorem incWindow_rampCount (s : State) : (incWindow s).rampCount = s.rampCount := rfl
@[simp] theorem incWindow_soundCount (s : State) : (incWindow s).soundCount = s.soundCount := rfl
@[simp] theorem incWindow_idx (s : State) : (incWindow s).idx = s.idx := rfl
@[simp] theorem incWindow_fade (s : State) : (incWindow s).fade = s.fade := rfl
@[simp] theorem incWindow_delay (s : State) : (incWindow s).delay = s.delay := rfl
@[simp] theorem incWindow_amp (s : State) : (incWindow s).amp = s.amp := rfl
@[simp] theorem incWindow_sensorCount (s : State) : (incWindow s).sensorCount = s.sensorCount := rfl
@[simp] theorem incWindow_windowCount (s : State) : (incWindow s).windowCount = satW (s.windowCount.toNat + 1) := rfl
@[simp] theorem incWindow_motorPwm (s : State) : (incWindow s).motorPwm = s.motorPwm := rfl
@[simp] theorem incWindow_audioPwm (s : State) : (incWindow s).audioPwm = s.audioPwm := rfl
@[simp] theorem incWindow_cfg (s : State) : (incWindow s).cfg = s.cfg := rfl
@[simp] theorem incWindow_stimuli (s : State) : (incWindow s).stimuli = s.stimuli := rfl
@[simp] theorem incWindow_freeCount (s : State) : (incWindow s).freeCount = s.freeCount := rfl

/-! `forceStop` (R151). -/
@[simp] theorem forceStop_event (s : State) : (forceStop s).event = s.event := rfl
@[simp] theorem forceStop_sensorEn (s : State) : (forceStop s).sensorEn = s.sensorEn := rfl
@[simp] theorem forceStop_motorDuty (s : State) : (forceStop s).motorDuty = 0#8 := rfl
@[simp] theorem forceStop_rampCount (s : State) : (forceStop s).rampCount = s.rampCount := rfl
@[simp] theorem forceStop_soundCount (s : State) : (forceStop s).soundCount = s.soundCount := rfl
@[simp] theorem forceStop_idx (s : State) : (forceStop s).idx = s.idx := rfl
@[simp] theorem forceStop_fade (s : State) : (forceStop s).fade = s.fade := rfl
@[simp] theorem forceStop_delay (s : State) : (forceStop s).delay = s.delay := rfl
@[simp] theorem forceStop_amp (s : State) : (forceStop s).amp = s.amp := rfl
@[simp] theorem forceStop_sensorCount (s : State) : (forceStop s).sensorCount = s.sensorCount := rfl
@[simp] theorem forceStop_windowCount (s : State) : (forceStop s).windowCount = s.windowCount := rfl
@[simp] theorem forceStop_motorPwm (s : State) : (forceStop s).motorPwm = s.motorPwm := rfl
@[simp] theorem forceStop_audioPwm (s : State) : (forceStop s).audioPwm = s.audioPwm := rfl
@[simp] theorem forceStop_cfg (s : State) : (forceStop s).cfg = s.cfg := rfl
@[simp] theorem forceStop_stimuli (s : State) : (forceStop s).stimuli = s.stimuli := rfl
@[simp] theorem forceStop_freeCount (s : State) : (forceStop s).freeCount = s.freeCount := rfl

/-! `silence` (R176). -/
@[simp] theorem silence_event (s : State) : (silence s).event = s.event := rfl
@[simp] theorem silence_sensorEn (s : State) : (silence s).sensorEn = s.sensorEn := rfl
@[simp] theorem silence_motorDuty (s : State) : (silence s).motorDuty = s.motorDuty := rfl
@[simp] theorem silence_rampCount (s : State) : (silence s).rampCount = s.rampCount := rfl
@[simp] theorem silence_soundCount (s : State) : (silence s).soundCount = s.soundCount := rfl
@[simp] theorem silence_idx (s : State) : (silence s).idx = s.idx := rfl
@[simp] theorem silence_fade (s : State) : (silence s).fade = s.fade := rfl
@[simp] theorem silence_delay (s : State) : (silence s).delay = s.delay := rfl
@[simp] theorem silence_amp (s : State) : (silence s).amp = 0#8 := rfl
@[simp] theorem silence_sensorCount (s : State) : (silence s).sensorCount = s.sensorCount := rfl
@[simp] theorem silence_windowCount (s : State) : (silence s).windowCount = s.windowCount := rfl
@[simp] theorem silence_motorPwm (s : State) : (silence s).motorPwm = s.motorPwm := rfl
@[simp] theorem silence_audioPwm (s : State) : (silence s).audioPwm = s.audioPwm := rfl
@[simp] theorem silence_cfg (s : State) : (silence s).cfg = s.cfg := rfl
@[simp] theorem silence_stimuli (s : State) : (silence s).stimuli = s.stimuli := rfl
@[simp] theorem silence_freeCount (s : State) : (silence s).freeCount = s.freeCount := rfl

/-! `countPause` (R177). -/
@[simp] theorem countPause_event (s : State) : (countPause s).event = s.event := rfl
@[simp] theorem countPause_sensorEn (s : State) : (countPause s).sensorEn = s.sensorEn := rfl
@[simp] theorem countPause_motorDuty (s : State) : (countPause s).motorDuty = s.motorDuty := rfl
@[simp] theorem countPause_rampCount (s : State) : (countPause s).rampCount = s.rampCount := rfl
@[simp] theorem countPause_soundCount (s : State) : (countPause s).soundCount = s.soundCount := rfl
@[simp] theorem countPause_idx (s : State) : (countPause s).idx = s.idx := rfl
@[simp] theorem countPause_fade (s : State) : (countPause s).fade = s.fade := rfl
@[simp] theorem countPause_delay (s : State) : (countPause s).delay = s.delay - 1#16 := rfl
@[simp] theorem countPause_amp (s : State) : (countPause s).amp = s.amp := rfl
@[simp] theorem countPause_sensorCount (s : State) : (countPause s).sensorCount = s.sensorCount := rfl
@[simp] theorem countPause_windowCount (s : State) : (countPause s).windowCount = s.windowCount := rfl
@[simp] theorem countPause_motorPwm (s : State) : (countPause s).motorPwm = s.motorPwm := rfl
@[simp] theorem countPause_audioPwm (s : State) : (countPause s).audioPwm = s.audioPwm := rfl
@[simp] theorem countPause_cfg (s : State) : (countPause s).cfg = s.cfg := rfl
@[simp] theorem countPause_stimuli (s : State) : (countPause s).stimuli = s.stimuli := rfl
@[simp] theorem countPause_freeCount (s : State) : (countPause s).freeCount = s.freeCount := rfl

/-! `endOfPass` (R178). -/
@[simp] theorem endOfPass_event (p : Phase) (s : State) : (endOfPass p s).event = s.event := rfl
@[simp] theorem endOfPass_sensorEn (p : Phase) (s : State) : (endOfPass p s).sensorEn = s.sensorEn := rfl
@[simp] theorem endOfPass_motorDuty (p : Phase) (s : State) : (endOfPass p s).motorDuty = s.motorDuty := rfl
@[simp] theorem endOfPass_rampCount (p : Phase) (s : State) : (endOfPass p s).rampCount = s.rampCount := rfl
@[simp] theorem endOfPass_soundCount (p : Phase) (s : State) : (endOfPass p s).soundCount = satW (s.soundCount.toNat + 1) := rfl
@[simp] theorem endOfPass_idx (p : Phase) (s : State) : (endOfPass p s).idx = 0#16 := rfl
@[simp] theorem endOfPass_fade (p : Phase) (s : State) : (endOfPass p s).fade = 0#8 := rfl
@[simp] theorem endOfPass_delay (p : Phase) (s : State) : (endOfPass p s).delay = passDelay s.cfg p s.soundCount.toNat := rfl
@[simp] theorem endOfPass_amp (p : Phase) (s : State) : (endOfPass p s).amp = s.amp := rfl
@[simp] theorem endOfPass_sensorCount (p : Phase) (s : State) : (endOfPass p s).sensorCount = s.sensorCount := rfl
@[simp] theorem endOfPass_windowCount (p : Phase) (s : State) : (endOfPass p s).windowCount = s.windowCount := rfl
@[simp] theorem endOfPass_motorPwm (p : Phase) (s : State) : (endOfPass p s).motorPwm = s.motorPwm := rfl
@[simp] theorem endOfPass_audioPwm (p : Phase) (s : State) : (endOfPass p s).audioPwm = s.audioPwm := rfl
@[simp] theorem endOfPass_cfg (p : Phase) (s : State) : (endOfPass p s).cfg = s.cfg := rfl
@[simp] theorem endOfPass_stimuli (p : Phase) (s : State) : (endOfPass p s).stimuli = s.stimuli := rfl
@[simp] theorem endOfPass_freeCount (p : Phase) (s : State) : (endOfPass p s).freeCount = s.freeCount := rfl

/-! `normalTick` (R187). -/
@[simp] theorem normalTick_event (b : Byte) (s : State) : (normalTick b s).event = s.event := rfl
@[simp] theorem normalTick_sensorEn (b : Byte) (s : State) : (normalTick b s).sensorEn = s.sensorEn := rfl
@[simp] theorem normalTick_motorDuty (b : Byte) (s : State) : (normalTick b s).motorDuty = s.motorDuty := rfl
@[simp] theorem normalTick_rampCount (b : Byte) (s : State) : (normalTick b s).rampCount = s.rampCount := rfl
@[simp] theorem normalTick_soundCount (b : Byte) (s : State) : (normalTick b s).soundCount = s.soundCount := rfl
@[simp] theorem normalTick_idx (b : Byte) (s : State) : (normalTick b s).idx = satW (s.idx.toNat + 1) := rfl
@[simp] theorem normalTick_fade (b : Byte) (s : State) : (normalTick b s).fade = 0#8 := rfl
@[simp] theorem normalTick_delay (b : Byte) (s : State) : (normalTick b s).delay = s.delay := rfl
@[simp] theorem normalTick_amp (b : Byte) (s : State) : (normalTick b s).amp = b := rfl
@[simp] theorem normalTick_sensorCount (b : Byte) (s : State) : (normalTick b s).sensorCount = s.sensorCount := rfl
@[simp] theorem normalTick_windowCount (b : Byte) (s : State) : (normalTick b s).windowCount = s.windowCount := rfl
@[simp] theorem normalTick_motorPwm (b : Byte) (s : State) : (normalTick b s).motorPwm = s.motorPwm := rfl
@[simp] theorem normalTick_audioPwm (b : Byte) (s : State) : (normalTick b s).audioPwm = s.audioPwm := rfl
@[simp] theorem normalTick_cfg (b : Byte) (s : State) : (normalTick b s).cfg = s.cfg := rfl
@[simp] theorem normalTick_stimuli (b : Byte) (s : State) : (normalTick b s).stimuli = s.stimuli := rfl
@[simp] theorem normalTick_freeCount (b : Byte) (s : State) : (normalTick b s).freeCount = s.freeCount := rfl

/-! `writeOutputs` (R135). -/
@[simp] theorem writeOutputs_event (s : State) : (writeOutputs s).event = s.event := rfl
@[simp] theorem writeOutputs_sensorEn (s : State) : (writeOutputs s).sensorEn = s.sensorEn := rfl
@[simp] theorem writeOutputs_motorDuty (s : State) : (writeOutputs s).motorDuty = s.motorDuty := rfl
@[simp] theorem writeOutputs_rampCount (s : State) : (writeOutputs s).rampCount = s.rampCount := rfl
@[simp] theorem writeOutputs_soundCount (s : State) : (writeOutputs s).soundCount = s.soundCount := rfl
@[simp] theorem writeOutputs_idx (s : State) : (writeOutputs s).idx = s.idx := rfl
@[simp] theorem writeOutputs_fade (s : State) : (writeOutputs s).fade = s.fade := rfl
@[simp] theorem writeOutputs_delay (s : State) : (writeOutputs s).delay = s.delay := rfl
@[simp] theorem writeOutputs_amp (s : State) : (writeOutputs s).amp = s.amp := rfl
@[simp] theorem writeOutputs_sensorCount (s : State) : (writeOutputs s).sensorCount = s.sensorCount := rfl
@[simp] theorem writeOutputs_windowCount (s : State) : (writeOutputs s).windowCount = s.windowCount := rfl
@[simp] theorem writeOutputs_motorPwm (s : State) : (writeOutputs s).motorPwm = s.motorDuty := rfl
@[simp] theorem writeOutputs_audioPwm (s : State) : (writeOutputs s).audioPwm = s.amp := rfl
@[simp] theorem writeOutputs_cfg (s : State) : (writeOutputs s).cfg = s.cfg := rfl
@[simp] theorem writeOutputs_stimuli (s : State) : (writeOutputs s).stimuli = s.stimuli := rfl
@[simp] theorem writeOutputs_freeCount (s : State) : (writeOutputs s).freeCount = s.freeCount := rfl

end Sys2Proof.Machine
end

