-- ==== Sys2Proof/Laws/Ops.lean ====
section
/-! SUPPORT. What the shared operations can do, said once: saturation, the codes of the events, the table
read, the fade increment, and taking the next stimulus word. -/

namespace Sys2Proof.Machine

@[simp] theorem satW_toNat (n : Nat) : (satW n).toNat = min n wordMax := by
  simp only [satW, wordMax, BitVec.toNat_ofNat]
  omega

theorem satW_toNat_of_le {n : Nat} (h : n ≤ wordMax) : (satW n).toNat = n := by
  simp [h]

/-- A saturating increment of a number below `y` is at most `y`. -/
theorem satSucc_le_of_lt {x y : Nat} (h : x < y) : min (x + 1) wordMax ≤ y := by
  omega

/-- A saturating increment that does not reach the top has not saturated. -/
theorem satSucc_eq_of_lt {x y : Nat} (h : min (x + 1) wordMax = y) (hy : y < wordMax) : x + 1 = y := by
  omega

theorem satW_self (w : Word) : satW w.toNat = w := by
  apply BitVec.eq_of_toNat_eq
  have := w.isLt
  simp [wordMax]
  omega

@[simp] theorem eventOf_eventCode (e : Event) : eventOf (eventCode e) = some e := by
  cases e <;> rfl

theorem eventCode_of_eventOf {c : BitVec 3} {e : Event} (h : eventOf c = some e) :
    c = eventCode e := by
  revert e
  revert c
  decide

theorem eventCode_injective {e e' : Event} (h : eventCode e = eventCode e') : e = e' := by
  revert e'
  cases e <;> intro e' <;> cases e' <;> decide

@[simp] theorem eventCode_inj {e e' : Event} : eventCode e = eventCode e' ↔ e = e' :=
  ⟨eventCode_injective, fun h => h ▸ rfl⟩

/-- Every 3-bit value is one of the six codes, or 6 or 7. -/
theorem event_cases (c : BitVec 3) :
    c = eventCode .none ∨ c = eventCode .sensorMissing ∨ c = eventCode .button1Pressed ∨
    c = eventCode .button1Released ∨ c = eventCode .button2Pressed ∨
    c = eventCode .button2Released ∨ (c.toNat = 6 ∨ c.toNat = 7) := by
  revert c
  decide

theorem eventOf_reserved {c : BitVec 3} (h : c.toNat = 6 ∨ c.toNat = 7) :
    eventOf c = Option.none := by
  revert c
  decide

theorem eventCode_ne_reserved {c : BitVec 3} (h : c.toNat = 6 ∨ c.toNat = 7) (e : Event) :
    c ≠ eventCode e := by
  revert c
  cases e <;> decide

/-- A table read answers exactly at the indices below the length (R61, R62). -/
theorem memRead_isSome (c : Config) (t : TableId) (i : Nat) :
    (memRead c t i).isSome = true ↔ i < tableLen c t := by
  simp [memRead, tableLen]

theorem memRead_of_lt {c : Config} {t : TableId} {i : Nat} (h : i < tableLen c t) :
    ∃ b, memRead c t i = some b :=
  Option.isSome_iff_exists.mp ((memRead_isSome c t i).mpr h)

/-- The increment of a `fade` below 255 is the next number and draws nothing (R185, R186). -/
theorem incFade_of_lt {s : State} (h : s.fade.toNat ≤ 254) :
    incFade s = { s with fade := s.fade + 1#8 } := by
  have hne : s.fade ≠ 255#8 := by
    intro he
    simp [he] at h
  simp [incFade, hne]

theorem fade_succ_toNat {b : Byte} (h : b.toNat ≤ 254) : (b + 1#8).toNat = b.toNat + 1 := by
  simp only [BitVec.toNat_add, BitVec.toNat_ofNat]
  omega

/-- The fade increment writes `fade` and the count of draws, nothing else. -/
theorem incFade_frame (s : State) :
    ∃ v n, incFade s = { s with fade := v, freeCount := n } := by
  unfold incFade
  split
  · exact ⟨_, _, rfl⟩
  · exact ⟨_, s.freeCount, rfl⟩

/-- What taking a stimulus word can answer: an operation and the state without that word. -/
theorem fetch_ok {s s' : State} {i : Instr} (h : fetch s = .ok (i, s')) :
    ∃ w rest, s.stimuli = w :: rest ∧ decodeByte w = .ok i ∧ s' = { s with stimuli := rest } := by
  unfold fetch at h
  split at h
  · cases h
  · rename_i w rest hs
    cases hd : decodeByte w with
    | error e => simp [decode, hd] at h
    | ok j =>
      simp [decode, hd] at h
      exact ⟨w, rest, hs, by rw [hd, h.1], h.2.symm⟩

/-- What a step can do: perform the operation of the next stimulus word. -/
theorem step_next {s t : State} (h : step s = .next t) :
    ∃ w rest i, s.stimuli = w :: rest ∧ decodeByte w = .ok i ∧
      exec i { s with stimuli := rest } = .next t := by
  unfold step at h
  split at h
  · rename_i i s' hf
    obtain ⟨w, rest, hs, hd, rfl⟩ := fetch_ok hf
    exact ⟨w, rest, i, hs, hd, h⟩
  · cases h

end Sys2Proof.Machine
end

