-- ==== Sys2Proof/Laws/Debouncer.lean ====
section
/-! SUPPORT. The three steps of `PINCHG`, each case said once (R112 to R118). -/

namespace Sys2Proof.Machine

theorem pressed_iff {fall hold : Bool} : pressed fall hold = true ↔ fall = true ∧ hold = true := by
  simp [pressed]

theorem button1Step_unpressed {fall hold : Bool} (h : pressed fall hold = false) (s : State) :
    button1Step fall hold s = s := by
  simp [button1Step, h]

/-- R113. -/
theorem button1Step_start {fall hold : Bool} {s : State} (h : pressed fall hold = true)
    (he : s.event ≠ eventCode .button1Pressed) :
    button1Step fall hold s =
      setSensorEn (clearCounters { s with event := eventCode .button1Pressed }) := by
  simp [button1Step, h, he]

/-- R114. -/
theorem button1Step_stop {fall hold : Bool} {s : State} (h : pressed fall hold = true)
    (he : s.event = eventCode .button1Pressed) (hg : s.cfg.tStopped ≤ s.soundCount.toNat) :
    button1Step fall hold s =
      clearSensorEn (clearCounters { s with event := eventCode .button1Released }) := by
  simp [button1Step, h, he, hg]

/-- R115. -/
theorem button1Step_early {fall hold : Bool} {s : State}
    (he : s.event = eventCode .button1Pressed) (hg : s.soundCount.toNat < s.cfg.tStopped) :
    button1Step fall hold s = s := by
  have : ¬ s.cfg.tStopped ≤ s.soundCount.toNat := by omega
  simp [button1Step, he, this]

theorem button2Step_unpressed {fall hold : Bool} (h : pressed fall hold = false) (s : State) :
    button2Step fall hold s = s := by
  simp [button2Step, h]

/-- R117. -/
theorem button2Step_pressed {fall hold : Bool} (h : pressed fall hold = true) (s : State) :
    button2Step fall hold s = { s with soundCount := 0#16, event := eventCode .button2Pressed } := by
  simp [button2Step, h]

/-- R118. -/
theorem releaseStep_fires {s : State} (he : s.event = eventCode .button2Pressed) :
    releaseStep false false s = { s with event := eventCode .button2Released } := by
  simp [releaseStep, he]

theorem releaseStep_fall1 (b2Fall : Bool) (s : State) : releaseStep true b2Fall s = s := by
  simp [releaseStep]

theorem releaseStep_fall2 (b1Fall : Bool) (s : State) : releaseStep b1Fall true s = s := by
  simp [releaseStep]

theorem releaseStep_other {s : State} (he : s.event ≠ eventCode .button2Pressed)
    (b1Fall b2Fall : Bool) : releaseStep b1Fall b2Fall s = s := by
  simp [releaseStep, he]

/-- All that `PINCHG` can do (R112 to R120): nothing, a start, a stop, a release, or a whistle, the last
after whatever the Button1 step did. -/
theorem pinChange_cases (f1 h1 f2 h2 : Bool) (s : State) :
    (pinChange f1 h1 f2 h2 s = s) ∨
    (pressed f1 h1 = true ∧ pressed f2 h2 = false ∧ s.event ≠ eventCode .button1Pressed ∧
      pinChange f1 h1 f2 h2 s =
        setSensorEn (clearCounters { s with event := eventCode .button1Pressed })) ∨
    (pressed f1 h1 = true ∧ pressed f2 h2 = false ∧ s.event = eventCode .button1Pressed ∧
      s.cfg.tStopped ≤ s.soundCount.toNat ∧
      pinChange f1 h1 f2 h2 s =
        clearSensorEn (clearCounters { s with event := eventCode .button1Released })) ∨
    (f1 = false ∧ f2 = false ∧ s.event = eventCode .button2Pressed ∧
      pinChange f1 h1 f2 h2 s = { s with event := eventCode .button2Released }) ∨
    (pressed f2 h2 = true ∧
      pinChange f1 h1 f2 h2 s =
        { button1Step f1 h1 s with soundCount := 0#16, event := eventCode .button2Pressed } ∧
      (button1Step f1 h1 s = s ∨
        (pressed f1 h1 = true ∧ s.event ≠ eventCode .button1Pressed ∧ button1Step f1 h1 s =
          setSensorEn (clearCounters { s with event := eventCode .button1Pressed })) ∨
        (pressed f1 h1 = true ∧ s.event = eventCode .button1Pressed ∧
          s.cfg.tStopped ≤ s.soundCount.toNat ∧ button1Step f1 h1 s =
          clearSensorEn (clearCounters { s with event := eventCode .button1Released })))) := by
  unfold pinChange
  by_cases hp2 : pressed f2 h2 = true
  · obtain ⟨rfl, -⟩ := pressed_iff.mp hp2
    refine Or.inr (Or.inr (Or.inr (Or.inr ⟨hp2, ?_, ?_⟩)))
    · rw [button2Step_pressed hp2, releaseStep_fall2]
    · by_cases hp1 : pressed f1 h1 = true
      · by_cases he : s.event = eventCode .button1Pressed
        · by_cases hg : s.cfg.tStopped ≤ s.soundCount.toNat
          · exact Or.inr (Or.inr ⟨hp1, he, hg, button1Step_stop hp1 he hg⟩)
          · exact Or.inl (button1Step_early he (by omega))
        · exact Or.inr (Or.inl ⟨hp1, he, button1Step_start hp1 he⟩)
      · exact Or.inl (button1Step_unpressed (by simpa using hp1) s)
  · have hp2' : pressed f2 h2 = false := by simpa using hp2
    rw [button2Step_unpressed hp2']
    by_cases hp1 : pressed f1 h1 = true
    · obtain ⟨rfl, -⟩ := pressed_iff.mp hp1
      rw [releaseStep_fall1]
      by_cases he : s.event = eventCode .button1Pressed
      · by_cases hg : s.cfg.tStopped ≤ s.soundCount.toNat
        · exact Or.inr (Or.inr (Or.inl ⟨hp1, hp2', he, hg, button1Step_stop hp1 he hg⟩))
        · exact Or.inl (button1Step_early he (by omega))
      · exact Or.inr (Or.inl ⟨hp1, hp2', he, button1Step_start hp1 he⟩)
    · rw [button1Step_unpressed (by simpa using hp1)]
      by_cases he : s.event = eventCode .button2Pressed
      · cases f1 with
        | true => exact Or.inl (releaseStep_fall1 f2 s)
        | false =>
          cases f2 with
          | true => exact Or.inl (releaseStep_fall2 false s)
          | false => exact Or.inr (Or.inr (Or.inr (Or.inl ⟨rfl, rfl, he, releaseStep_fires he⟩)))
      · exact Or.inl (releaseStep_other he f1 f2)

end Sys2Proof.Machine
end

