-- ==== Sys2Proof/Laws/PerInstr.lean ====
section
/-! SUPPORT. Facts stated for every instruction as syntax: its word against its row of
spec/opcode_table.json. -/

namespace Sys2Proof.Laws

/-- The bits a row of spec/opcode_table.json fixes. -/
def tableMask : Instr → Byte
  | .idle => 0xFF#8
  | .tick _ => 0xFE#8
  | .pinchg _ _ _ _ => 0xF0#8
  | .reset => 0xFF#8
  | .press1 => 0xFF#8
  | .bounce1 => 0xFF#8
  | .press2 => 0xFF#8
  | .bounce2 => 0xFF#8
  | .press12 => 0xFF#8
  | .other => 0xFF#8
  | .release2 => 0xFF#8

/-- The values a row of spec/opcode_table.json gives the bits it fixes. -/
def tableMatch : Instr → Byte
  | .idle => 0x00#8
  | .tick _ => 0x40#8
  | .pinchg _ _ _ _ => 0x80#8
  | .reset => 0xC0#8
  | .press1 => 0x83#8
  | .bounce1 => 0x81#8
  | .press2 => 0x8C#8
  | .bounce2 => 0x84#8
  | .press12 => 0x8F#8
  | .other => 0x80#8
  | .release2 => 0x80#8

/-- The word of an instruction has the fixed bits of its table row, and read as a table word it is the
operation the instruction stands for (R84 to R89, R94). -/
def EncodeMatch.Statement (i : Instr) : Prop :=
  encodeWord i &&& tableMask i = tableMatch i ∧
  decodeTableWord 8 (encodeWord i).toNat = some i.expand

theorem EncodeMatch.idle : EncodeMatch.Statement .idle := ⟨rfl, rfl⟩

theorem EncodeMatch.tick (s : Bool) : EncodeMatch.Statement (.tick s) := by
  cases s <;> exact ⟨rfl, rfl⟩

theorem EncodeMatch.pinchg (f1 h1 f2 h2 : Bool) : EncodeMatch.Statement (.pinchg f1 h1 f2 h2) := by
  cases f1 <;> cases h1 <;> cases f2 <;> cases h2 <;> exact ⟨rfl, rfl⟩

theorem EncodeMatch.reset : EncodeMatch.Statement .reset := ⟨rfl, rfl⟩

theorem EncodeMatch.press1 : EncodeMatch.Statement .press1 := ⟨rfl, rfl⟩

theorem EncodeMatch.bounce1 : EncodeMatch.Statement .bounce1 := ⟨rfl, rfl⟩

theorem EncodeMatch.press2 : EncodeMatch.Statement .press2 := ⟨rfl, rfl⟩

theorem EncodeMatch.bounce2 : EncodeMatch.Statement .bounce2 := ⟨rfl, rfl⟩

theorem EncodeMatch.press12 : EncodeMatch.Statement .press12 := ⟨rfl, rfl⟩

theorem EncodeMatch.other : EncodeMatch.Statement .other := ⟨rfl, rfl⟩

theorem EncodeMatch.release2 : EncodeMatch.Statement .release2 := ⟨rfl, rfl⟩

end Sys2Proof.Laws
end

