-- ==== Sys2Proof/Laws/SubSteps.lean ====
section
/-! SUPPORT. What each operation and each sub-step of a tick can do, said once: its frame and its cases. -/

namespace Sys2Proof.Machine

/-- The sensor watch writes the event and its two counters; the event changes only from Button1Pressed to
SensorMissing (R132 to R134). -/
theorem sensorWatch_cases (level : Bool) (s : State) :
    ∃ e c w, sensorWatch level s = { s with event := e, sensorCount := c, windowCount := w } ∧
      (e = s.event ∨ (s.event = eventCode .button1Pressed ∧ e = eventCode .sensorMissing)) := by
  unfold sensorWatch closeWindow countSensor sensorCheck
  split <;> split
  all_goals first
    | exact ⟨s.event, _, _, rfl, Or.inl rfl⟩
    | (split
       · rename_i h
         exact ⟨_, _, _, rfl, Or.inr ⟨h.1, rfl⟩⟩
       · exact ⟨s.event, _, _, rfl, Or.inl rfl⟩)

/-- The motor ramp writes the duty and the prescaler, nothing else (R145). -/
theorem motorRamp_frame (s : State) :
    ∃ d r, motorRamp s = { s with motorDuty := d, rampCount := r } := by
  unfold motorRamp rampUp rampDown
  split
  · split
    · split
      · exact ⟨_, _, rfl⟩
      · split
        · exact ⟨_, _, rfl⟩
        · exact ⟨_, _, rfl⟩
    · exact ⟨s.motorDuty, s.rampCount, rfl⟩
  · split
    · split
      · exact ⟨_, _, rfl⟩
      · exact ⟨_, _, rfl⟩
    · exact ⟨s.motorDuty, s.rampCount, rfl⟩
  · exact ⟨_, s.rampCount, rfl⟩
  · exact ⟨_, s.rampCount, rfl⟩
  · exact ⟨_, s.rampCount, rfl⟩
  · exact ⟨s.motorDuty, s.rampCount, rfl⟩
  · exact ⟨s.motorDuty, s.rampCount, rfl⟩

/-- The rewind writes `sound_count`, nothing else (R161). -/
theorem rewind_eq (s : State) :
    rewind s = { s with soundCount := countAfterRewind s.cfg s.event s.soundCount } := by
  unfold rewind countAfterRewind
  split <;> rfl

/-- The sub-steps before the engine, in one update (R131). -/
theorem tickFront_cases (level : Bool) (s : State) :
    ∃ e c w d r,
      sensorWatch level s = { s with event := e, sensorCount := c, windowCount := w } ∧
      motorRamp { s with event := e, sensorCount := c, windowCount := w } =
        { s with
          event := e, sensorCount := c, windowCount := w, motorDuty := d, rampCount := r } ∧
      tickFront level s =
        { s with
          event := e, sensorCount := c, windowCount := w, motorDuty := d, rampCount := r
          soundCount := countAfterRewind s.cfg e s.soundCount } ∧
      (e = s.event ∨ (s.event = eventCode .button1Pressed ∧ e = eventCode .sensorMissing)) := by
  obtain ⟨e, c, w, hw, he⟩ := sensorWatch_cases level s
  obtain ⟨d, r, hr⟩ := motorRamp_frame { s with event := e, sensorCount := c, windowCount := w }
  refine ⟨e, c, w, d, r, hw, by simpa using hr, ?_, he⟩
  rw [tickFront, hw, hr, rewind_eq]

/-- The fade-in tick writes the cursor, the fade and the amplitude (R185). -/
theorem fadeInTick_frame (b : Byte) (s : State) :
    ∃ i f a n, fadeInTick b s = { s with idx := i, fade := f, amp := a, freeCount := n } := by
  obtain ⟨v, n, h⟩ := incFade_frame s
  unfold fadeInTick
  simp only [h]
  split
  · exact ⟨_, _, _, _, rfl⟩
  · exact ⟨s.idx, _, _, _, rfl⟩

/-- The fade-out tick writes the cursor, the fade and the amplitude (R186). -/
theorem fadeOutTick_frame (b : Byte) (len : Nat) (s : State) :
    ∃ i f a n, fadeOutTick b len s = { s with idx := i, fade := f, amp := a, freeCount := n } := by
  obtain ⟨v, n, h⟩ := incFade_frame s
  unfold fadeOutTick
  simp only [h]
  split
  · exact ⟨_, _, _, _, rfl⟩
  · exact ⟨s.idx, _, _, _, rfl⟩

/-- The four branches in which the engine works on a table (R175, R178, R185 to R187). -/
theorem playTable_cases {p : Phase} {t : TableId} {s u : State} (h : playTable p t s = some u) :
    (tableLen s.cfg t ≤ s.idx.toNat ∧ u = endOfPass p s) ∨
    (s.idx.toNat < tableLen s.cfg t ∧ s.idx = 0#16 ∧
      fadeCond s.cfg p s.soundCount.toNat = true ∧
      ∃ b, memRead s.cfg t 0 = some b ∧ u = fadeInTick b s) ∨
    (s.idx.toNat + 1 = tableLen s.cfg t ∧
      ¬(s.idx = 0#16 ∧ fadeCond s.cfg p s.soundCount.toNat = true) ∧
      ∃ b, memRead s.cfg t s.idx.toNat = some b ∧ u = fadeOutTick b (tableLen s.cfg t) s) ∨
    (s.idx.toNat + 1 < tableLen s.cfg t ∧
      ¬(s.idx = 0#16 ∧ fadeCond s.cfg p s.soundCount.toNat = true) ∧
      ∃ b, memRead s.cfg t s.idx.toNat = some b ∧ u = normalTick b s) := by
  unfold playTable at h
  split at h
  · exact Or.inl ⟨‹_›, by simpa using h.symm⟩
  · rename_i hlt
    split at h
    · rename_i hf
      obtain ⟨b, hb, rfl⟩ := Option.map_eq_some_iff.mp h
      exact Or.inr (Or.inl ⟨by omega, hf.1, hf.2, b, hb, rfl⟩)
    · rename_i hf
      split at h
      · rename_i hl
        obtain ⟨b, hb, rfl⟩ := Option.map_eq_some_iff.mp h
        exact Or.inr (Or.inr (Or.inl ⟨by omega, hf, b, by rw [hl]; exact hb, rfl⟩))
      · obtain ⟨b, hb, rfl⟩ := Option.map_eq_some_iff.mp h
        exact Or.inr (Or.inr (Or.inr ⟨by omega, hf, b, hb, rfl⟩))

/-- The six branches of the engine (R175). -/
theorem playback_cases {p : Phase} {s u : State} (h : playback p s = some u) :
    (p = .none ∧ u = silence s) ∨
    (∃ t, tableOf p = some t ∧ 0 < s.delay.toNat ∧ u = countPause s) ∨
    (∃ t, tableOf p = some t ∧ s.delay = 0#16 ∧ playTable p t s = some u) := by
  unfold playback at h
  split at h
  · rename_i ht
    exact Or.inl ⟨by cases p <;> simp_all [tableOf], by simpa using h.symm⟩
  · rename_i t ht
    split at h
    · exact Or.inr (Or.inl ⟨t, ht, ‹_›, by simpa using h.symm⟩)
    · rename_i hd
      refine Or.inr (Or.inr ⟨t, ht, BitVec.eq_of_toNat_eq ?_, h⟩)
      simpa using hd

/-- The engine writes `idx`, `fade`, `delay`, `amp`, `sound_count` and the model's count of draws, nothing
else (R175). -/
theorem playback_frame {p : Phase} {s u : State} (h : playback p s = some u) :
    ∃ i f d a n k, u = { s with
      idx := i, fade := f, delay := d, amp := a, soundCount := n, freeCount := k } := by
  rcases playback_cases h with ⟨-, rfl⟩ | ⟨t, -, -, rfl⟩ | ⟨t, -, -, ht⟩
  · exact ⟨s.idx, s.fade, s.delay, _, s.soundCount, s.freeCount, rfl⟩
  · exact ⟨s.idx, s.fade, _, s.amp, s.soundCount, s.freeCount, rfl⟩
  · rcases playTable_cases ht with ⟨-, rfl⟩ | ⟨-, -, -, b, -, rfl⟩ | ⟨-, -, b, -, rfl⟩ |
      ⟨-, -, b, -, rfl⟩
    · exact ⟨_, _, _, s.amp, _, s.freeCount, rfl⟩
    · obtain ⟨i, f, a, n, hf⟩ := fadeInTick_frame b s
      exact ⟨i, f, s.delay, a, s.soundCount, n, hf⟩
    · obtain ⟨i, f, a, n, hf⟩ := fadeOutTick_frame b (tableLen s.cfg t) s
      exact ⟨i, f, s.delay, a, s.soundCount, n, hf⟩
    · exact ⟨_, _, s.delay, _, s.soundCount, s.freeCount, rfl⟩

/-- What a tick can do (R131): the watch, the ramp, the rewind, the engine in the phase they leave, the
outputs. -/
theorem tick_cases {level : Bool} {s t : State} (h : tick level s = some t) :
    ∃ u, playback (tickPhase s (tickFront level s).event) (tickFront level s) = some u ∧
      t = writeOutputs u := by
  obtain ⟨u, hu, rfl⟩ := Option.map_eq_some_iff.mp h
  refine ⟨u, ?_, rfl⟩
  obtain ⟨e, c, w, d, r, -, -, hf, -⟩ := tickFront_cases level s
  rw [hf] at hu ⊢
  exact hu

end Sys2Proof.Machine
end

