-- ==== Sys2Proof/Tests/Slice0.lean ====
section
/-! SUPPORT. Tests: each check of well-formedness refuses an ill-formed term; words written from the
encodings decode; one-step vectors of spec/95_test_vectors.md, named by their ids; and, for every
statement with hypotheses, a state that meets them. -/

namespace Sys2Proof.Tests

open Sys2Proof Sys2Proof.Machine

/-- TC1 (spec/95_test_vectors.md, section 1). -/
def tc1 : Config where
  motorStart := 250#8
  n1 := 3
  n2 := 2
  tStarted := 3
  tStopped := 3
  r1Lo := 4
  r1Hi := 6
  wLo := 7
  wHi := 8
  r2Lo := 9
  r2Hi := 10
  delayMax := 7
  delayMin := 1
  delayInc := 2
  ticksPerWindow := 40
  settle := 0
  engine := [3#8, 9#8, 7#8, 2#8]
  bell := [2#8, 8#8, 2#8]
  whistle := [2#8, 6#8, 5#8, 2#8]

/-- The reset state under TC1, but for the event. -/
def base (e : Event) : State := { State.reset with cfg := tc1, event := eventCode e }

/-- A run at full speed under TC1, as the vectors of section 3.6 have it. -/
def running : State :=
  { base .button1Pressed with
    sensorEn := true, motorDuty := 255#8, motorPwm := 255#8, rampCount := 1#16 }

/-- The next state, if there is one. -/
def after (i : Instr) (s : State) : Option State :=
  match exec i s with
  | .next t => some t
  | .fault _ => none
  | .refused _ => none

/-- The next state of one step, if there is one. -/
def stepped (s : State) : Option State :=
  match step s with
  | .next t => some t
  | .fault _ => none
  | .refused _ => none

/-! ## Well-formedness (R6) -/

theorem test_tc1_well_formed : tc1.WF := by decide

theorem test_wfStart_refuses : ¬ { tc1 with motorStart := 0#8 }.wfStart := by decide

theorem test_wfRamp_refuses : ¬ { tc1 with n2 := 3 }.wfRamp := by decide

theorem test_wfThresholds_refuses : ¬ { tc1 with tStopped := 0 }.wfThresholds := by decide

theorem test_wfWindows_refuses : ¬ { tc1 with wHi := 7 }.wfWindows := by decide

theorem test_wfDisjoint_refuses : ¬ { tc1 with wHi := 10 }.wfDisjoint := by decide

theorem test_wfLast_refuses : ¬ { tc1 with r2Hi := 65535 }.wfLast := by decide

theorem test_wfDelays_refuses : ¬ { tc1 with delayMax := 3 }.wfDelays := by decide

theorem test_wfTables_refuses_length : ¬ { tc1 with bell := [2#8] }.wfTables := by decide

theorem test_wfTables_refuses_zero : ¬ { tc1 with engine := [3#8, 0#8, 7#8, 2#8] }.wfTables := by decide

theorem test_wfWindowTicks_refuses : ¬ { tc1 with ticksPerWindow := 0 }.wfWindowTicks := by decide

/-- R6, R162: a `T_STARTED` above every value of `sound_count`: always Starting. -/
theorem test_phase_started_above_register :
    phase { tc1 with tStarted := 70000, r2Hi := 80000 } (eventCode .button1Pressed) 65535 = .starting := by
  decide

theorem test_wellFormed_refuses_pseudo :
    Instr.wellFormed .press1 = false ∧ Instr.wellFormed .bounce1 = false ∧
    Instr.wellFormed .press2 = false ∧ Instr.wellFormed .bounce2 = false ∧
    Instr.wellFormed .press12 = false ∧ Instr.wellFormed .other = false ∧
    Instr.wellFormed .release2 = false := by decide

theorem test_canonical_refuses : Instr.canonical (.pinchg false true false false) = false := by decide

/-! ## Words (R85 to R90, R94; section 3.1 of the vectors) -/

theorem test_decode_idle : decode [0b00000000#8] = .ok (.idle, []) := by rfl

theorem test_decode_tick : decode [0b01000001#8, 0xFF#8] = .ok (.tick true, [0xFF#8]) := by rfl

theorem test_decode_pinchg_b1_fall : decode [0b10000001#8] = .ok (.pinchg true false false false, []) := by
  rfl

theorem test_decode_pinchg_b1_hold : decode [0b10000010#8] = .ok (.pinchg false true false false, []) := by
  rfl

theorem test_decode_pinchg_b2_fall : decode [0b10000100#8] = .ok (.pinchg false false true false, []) := by
  rfl

theorem test_decode_pinchg_b2_hold : decode [0b10001000#8] = .ok (.pinchg false false false true, []) := by
  rfl

theorem test_decode_reset : decode [0b11000000#8] = .ok (.reset, []) := by rfl

theorem test_decode_press1 : decode [0x83#8] = .ok (Instr.expand .press1, []) := by rfl

theorem test_decode_bounce1 : decode [0x81#8] = .ok (Instr.expand .bounce1, []) := by rfl

theorem test_decode_press2 : decode [0x8C#8] = .ok (Instr.expand .press2, []) := by rfl

theorem test_decode_bounce2 : decode [0x84#8] = .ok (Instr.expand .bounce2, []) := by rfl

theorem test_decode_press12 : decode [0x8F#8] = .ok (Instr.expand .press12, []) := by rfl

theorem test_decode_other : decode [0x80#8] = .ok (Instr.expand .other, []) := by rfl

theorem test_decode_release2 : decode [0x80#8] = .ok (Instr.expand .release2, []) := by rfl

theorem test_decode_reserved :
    decodeByte 0x01#8 = .error .reservedIdle ∧ decodeByte 0x3F#8 = .error .reservedIdle ∧
    decodeByte 0x42#8 = .error .reservedTick ∧ decodeByte 0x7F#8 = .error .reservedTick ∧
    decodeByte 0x90#8 = .error .reservedPinchg ∧ decodeByte 0xBF#8 = .error .reservedPinchg ∧
    decodeByte 0xC1#8 = .error .reservedReset ∧ decodeByte 0xFF#8 = .error .reservedReset := by
  exact ⟨rfl, rfl, rfl, rfl, rfl, rfl, rfl, rfl⟩

/-- The words R85 to R88 spell: 1 + 2 + 16 + 1. (Section 3.1 of the vectors lists these twenty and says 21.) -/
theorem test_legal_words :
    ((List.range 256).filter fun w => (decodeTableWord 8 w).isSome).length = 20 := by decide

theorem test_fetch_word_decodes :
    fetch ((base .none).withFetchWord 8 0x41) = .ok (.tick true, base .none) := by rfl

theorem test_text_parses :
    parseProgram ("TICKS 2, 1\n; two ticks\n\nPINCHG 1,0,0,1 ; bounce".toList) =
      some [.ticks 2 true, .op (.pinchg true false false true)] := by decide

theorem test_text_refused : parseProgram ("TICK 2".toList) = none := by decide

/-! ## One step of each operation (the vectors of sections 3.2 to 3.7) -/

/-- V-H3. -/
theorem test_idle_changes_nothing :
    stepped { running with soundCount := 5#16, stimuli := [0x00#8] } =
      some { running with soundCount := 5#16 } := by decide

/-- V-H1 (on fewer registers). -/
theorem test_reset_clears :
    (stepped { running with soundCount := 5#16, idx := 1#16, amp := 2#8, stimuli := [0xC0#8] }).map
      registers = some [0, 0, 0, 0, 0, 0, 0, 0, 0, 0, 0, 0, 0] := by decide

/-- V-P4: from SensorMissing. -/
theorem test_pinchg_starts :
    (stepped { base .sensorMissing with
      sensorEn := true, rampCount := 1#16, soundCount := 3#16, windowCount := 5#16
      stimuli := [0x83#8] }).map registers = some [2, 1, 0, 0, 0, 0, 0, 0, 0, 0, 0, 0, 0] := by decide

/-- V-P13: a Button1 bounce with a Button2 press. -/
theorem test_pinchg_bounce_and_press :
    (stepped { running with soundCount := 4#16, stimuli := [0x8D#8] }).map registers =
      some [4, 1, 255, 1, 0, 0, 0, 0, 0, 0, 0, 255, 0] := by decide

/-- V-P3: the stop keeps the duty and the amplitude. -/
theorem test_press1_stops :
    (after .press1 { running with
      soundCount := 3#16, idx := 2#16, amp := 9#8, audioPwm := 9#8, sensorCount := 3#16
      windowCount := 17#16 }).map registers =
      some [3, 0, 255, 0, 0, 0, 0, 0, 9, 0, 0, 255, 9] := by decide

/-- V-P2: a press before `T_STOPPED` passes. -/
theorem test_press1_early :
    after .press1 { running with soundCount := 2#16, idx := 2#16 } =
      some { running with soundCount := 2#16, idx := 2#16 } := by decide

/-- V-P12. -/
theorem test_bounce1_no_release :
    after .bounce1 { base .button2Pressed with soundCount := 1#16 } =
      some { base .button2Pressed with soundCount := 1#16 } := by decide

/-- V-P7. -/
theorem test_press2_again :
    (after .press2 { base .button2Pressed with
      sensorEn := true, rampCount := 1#16, soundCount := 6#16, idx := 2#16, amp := 6#8
      audioPwm := 6#8 }).map registers = some [4, 1, 0, 1, 0, 2, 0, 0, 6, 0, 0, 0, 6] := by decide

/-- V-P11. -/
theorem test_bounce2_no_release :
    after .bounce2 { base .button2Pressed with soundCount := 1#16 } =
      some { base .button2Pressed with soundCount := 1#16 } := by decide

/-- V-P9. -/
theorem test_press12_from_stop :
    (after .press12 { base .button1Released with
      motorDuty := 90#8, motorPwm := 90#8, rampCount := 1#16, soundCount := 2#16, idx := 3#16
      fade := 1#8, amp := 1#8, audioPwm := 1#8, windowCount := 30#16 }).map registers =
      some [4, 1, 90, 0, 0, 0, 0, 0, 1, 0, 0, 90, 1] := by decide

/-- V-P14: a sensor edge during a run. -/
theorem test_other_in_run :
    after .other { running with soundCount := 4#16 } = some { running with soundCount := 4#16 } := by
  decide

/-- V-P8. -/
theorem test_release2_releases :
    (after .release2 { base .button2Pressed with
      sensorEn := true, soundCount := 6#16, idx := 2#16, amp := 6#8, audioPwm := 6#8 }).map registers =
      some [5, 1, 0, 0, 6, 2, 0, 0, 6, 0, 0, 0, 6] := by decide

/-- V-S7: the window ends empty; the ramp and the engine of the same tick see SensorMissing. -/
theorem test_tick_sensor_missing :
    (after (.tick false) { base .button1Pressed with
      sensorEn := true, motorDuty := 253#8, motorPwm := 253#8, rampCount := 2#16, soundCount := 1#16
      idx := 2#16, amp := 9#8, audioPwm := 9#8, windowCount := 39#16 }).map registers =
      some [1, 1, 0, 2, 1, 2, 0, 0, 0, 0, 0, 0, 0] := by decide

/-- V-B8: the pause of an end-of-pass tick uses the count before the increment. -/
theorem test_tick_end_of_pass :
    (after (.tick false) { running with soundCount := 2#16, idx := 4#16 }).map registers =
      some [2, 1, 255, 1, 3, 0, 0, 3, 0, 0, 1, 255, 0] := by decide

/-! ## States that meet the hypotheses of the statements -/

theorem witness_DecodeInvertsEncode : Instr.wellFormed (.tick true) = true := by decide

theorem witness_EncodeInvertsDecode : decodeByte 0x41#8 = .ok (.tick true) := by rfl

theorem witness_ReservedWordsAreRefused :
    decodeByte 0xC1#8 = .error .reservedReset ∧
    { base .none with stimuli := [0xC1#8, 0x40#8] }.stimuli = 0xC1#8 :: [0x40#8] := ⟨rfl, rfl⟩

theorem witness_StepPerformsNextOperation :
    { base .none with stimuli := [0x41#8, 0x40#8] }.stimuli = 0x41#8 :: [0x40#8] ∧
    decodeByte 0x41#8 = .ok (.tick true) := ⟨rfl, rfl⟩

theorem witness_StepWithoutStimulusRefused : State.reset.stimuli = [] := rfl

theorem witness_TableReadReturnsConfiguredByte :
    3 < (tableBytes tc1 .engine).length ∧ (tableBytes tc1 .engine).length ≤ 4 := by decide

theorem witness_RegisterWriteReadsBack :
    7 < 2 ^ regWidth .event ∧ Reg.fade ≠ Reg.event := by decide

theorem witness_Button1PressStartsRun :
    pressed true false = false ∧ (base .sensorMissing).event ≠ eventCode .button1Pressed := by decide

theorem witness_Button1PressStopsRun :
    pressed false true = false ∧ { running with soundCount := 3#16 }.event = eventCode .button1Pressed ∧
    { running with soundCount := 3#16 }.cfg.tStopped ≤
      { running with soundCount := 3#16 }.soundCount.toNat := by decide

theorem witness_EarlyButton1PressIgnored :
    pressed false true = false ∧ { running with soundCount := 2#16 }.event = eventCode .button1Pressed ∧
    { running with soundCount := 2#16 }.soundCount.toNat <
      { running with soundCount := 2#16 }.cfg.tStopped := by decide

theorem witness_Button2PressClearsSoundCount : pressed true false = false := by decide

theorem witness_ReleaseNeedsNoFallingEdge :
    (base .button2Pressed).event = eventCode .button2Pressed := by decide

theorem witness_UnqualifiedInvocationIgnored :
    pressed true false = false ∧ pressed false true = false ∧
    ((true = true ∨ false = true) ∨ (base .button2Pressed).event ≠ eventCode .button2Pressed) ∧
    ((false = true ∨ false = true) ∨ (base .none).event ≠ eventCode .button2Pressed) := by decide

theorem witness_PinchgWritesAndReadsOnlyItsOwn :
    (∃ t, exec (.pinchg true true false false) (base .none) = .next t ∧ t.event ≠ (base .none).event) ∧
    { base .none with idx := 4#16 }.event = (base .none).event ∧
    { base .none with idx := 4#16 }.soundCount = (base .none).soundCount ∧
    { base .none with idx := 4#16 }.cfg = (base .none).cfg := by
  exact ⟨⟨_, rfl, by decide⟩, rfl, rfl, rfl⟩

theorem witness_ReservedEventCodesAreHandled :
    5 < { base .none with event := 6#3 }.event.toNat ∧
    ∃ t, exec .idle { base .none with event := 7#3 } = .next t ∧ 5 < t.event.toNat :=
  ⟨by decide, _, rfl, by decide⟩

theorem witness_EventEntryCauses :
    (∃ t, exec .reset running = .next t ∧ t.event = eventCode .none) ∧
    (∃ t, exec (.tick false) { running with windowCount := 39#16 } = .next t ∧
      t.event = eventCode .sensorMissing) ∧
    (∃ t, exec .press1 (base .none) = .next t ∧ t.event = eventCode .button1Pressed) ∧
    (∃ t, exec .press1 { running with soundCount := 3#16 } = .next t ∧
      t.event = eventCode .button1Released) ∧
    (∃ t, exec .press2 running = .next t ∧ t.event = eventCode .button2Pressed) ∧
    (∃ t, exec .other (base .button2Pressed) = .next t ∧ t.event = eventCode .button2Released) ∧
    (base .button2Released).event.toNat ≤ 5 :=
  ⟨⟨_, rfl, by decide⟩, ⟨_, rfl, by decide⟩, ⟨_, rfl, by decide⟩, ⟨_, rfl, by decide⟩,
    ⟨_, rfl, by decide⟩, ⟨_, rfl, by decide⟩, by decide⟩

theorem witness_SensorEnableChangesOnButton1Only :
    (∃ t, exec .press1 (base .none) = .next t ∧ (base .none).sensorEn = false ∧ t.sensorEn = true) ∧
    (∃ t, exec .press1 { running with soundCount := 3#16 } = .next t ∧
      { running with soundCount := 3#16 }.sensorEn = true ∧ t.sensorEn = false) :=
  ⟨⟨_, rfl, by decide⟩, ⟨_, rfl, by decide⟩⟩

/-- The window clause at the window's last tick, with each of its two ends, and the other clause one tick
before, counting and not. -/
theorem witness_TickWatchesSensor :
    running.cfg.ticksPerWindow ≤ min ({ running with windowCount := 39#16 }.windowCount.toNat + 1) wordMax ∧
    running.event = eventCode .button1Pressed ∧ running.sensorCount = 0#16 ∧
    ¬(running.sensorEn = true ∧ false = true) ∧ (running.sensorEn = true ∧ true = true) ∧
    min ({ running with windowCount := 38#16 }.windowCount.toNat + 1) wordMax <
      running.cfg.ticksPerWindow := by decide

theorem witness_SensorLevelIgnoredWhenDisabled : (base .button1Released).sensorEn = false := by decide

/-- Clauses 1 to 4 of the ramp: the jump, the step and the count at their boundary, full speed. -/
theorem witness_TickRampsMotor_up :
    (∃ t, exec (.tick false) { running with motorDuty := 254#8, rampCount := 0#16 } = .next t ∧
      t.event = eventCode .button1Pressed) ∧
    (∃ t, exec (.tick false) { running with motorDuty := 254#8, rampCount := 3#16 } = .next t ∧
      t.event = eventCode .button1Pressed ∧ running.cfg.n1 ≤ (3#16).toNat) ∧
    (∃ t, exec (.tick false) { running with motorDuty := 254#8, rampCount := 2#16 } = .next t ∧
      t.event = eventCode .button1Pressed ∧ (2#16).toNat < running.cfg.n1) ∧
    (∃ t, exec (.tick false) running = .next t ∧ t.event = eventCode .button1Pressed ∧
      running.motorDuty.toNat = 255) :=
  ⟨⟨_, rfl, by decide⟩, ⟨_, rfl, by decide⟩, ⟨_, rfl, by decide⟩, ⟨_, rfl, by decide⟩⟩

/-- Clauses 5 to 9 of the ramp. -/
theorem witness_TickRampsMotor_down :
    (∃ t, exec (.tick false) { base .button1Released with motorDuty := 1#8, rampCount := 1#16 } = .next t ∧
      t.event = eventCode .button1Released ∧ (base .none).cfg.n2 ≤ (1#16).toNat + 1) ∧
    (∃ t, exec (.tick false) { base .button1Released with motorDuty := 1#8 } = .next t ∧
      t.event = eventCode .button1Released ∧ (0#16).toNat + 1 < (base .none).cfg.n2) ∧
    (∃ t, exec (.tick false) (base .button1Released) = .next t ∧ t.event = eventCode .button1Released ∧
      (base .button1Released).motorDuty.toNat = 0) ∧
    (∃ t, exec (.tick false) { base .button2Released with motorDuty := 200#8 } = .next t ∧
      t.event = eventCode .button2Released) ∧
    (∃ t, exec (.tick false) { base .none with motorDuty := 9#8 } = .next t ∧
      t.event = eventCode .none) :=
  ⟨⟨_, rfl, by decide⟩, ⟨_, rfl, by decide⟩, ⟨_, rfl, by decide⟩, ⟨_, rfl, by decide⟩,
    ⟨_, rfl, by decide⟩⟩

theorem witness_OutputsWrittenByTickOnly :
    (∀ level, Instr.idle ≠ .tick level) ∧ Instr.idle ≠ .reset := by decide

/-- Premises of the clauses about the windows, about a stop, at the threshold and one below, and about the other events. -/
theorem witness_PhaseFollowsSchedule :
    tc1.WF ∧ (tc1.wLo ≤ 7 ∧ 7 < tc1.wHi) ∧ (tc1.r1Lo ≤ 5 ∧ 5 < tc1.r1Hi) ∧
    (tc1.r2Lo ≤ 9 ∧ 9 < tc1.r2Hi) ∧ 2 < tc1.tStopped ∧ tc1.tStopped ≤ 3 ∧
    eventCode .sensorMissing ≠ eventCode .button1Pressed ∧
    eventCode .sensorMissing ≠ eventCode .button1Released ∧
    eventCode .sensorMissing ≠ eventCode .button2Pressed := by decide

/-- The run of vector V-L1, which has just reached `R2_HI`, with the rewind's own fade-in tick; one count
below it, where nothing is rewound; the last inner entry and a pause; phase None; and a tick that ends a
pass. -/
theorem witness_TickRewindsSchedule :
    (∃ t, exec (.tick false) { running with soundCount := 10#16 } = .next t ∧
      t.event = eventCode .button1Pressed ∧ tc1.r2Hi ≤ (10#16).toNat ∧ 3 = min tc1.tStarted wordMax ∧
      tableOf (phase tc1 t.event 3) = some .engine ∧ (0#16).toNat < tableLen tc1 .engine) ∧
    (∃ t, exec (.tick false) { running with soundCount := 9#16, idx := 2#16 } = .next t ∧
      (9#16).toNat < tc1.r2Hi ∧ tableOf (phase tc1 t.event 9) = some .bell ∧
      (2#16).toNat < tableLen tc1 .bell) ∧
    { running with delay := 1#16 }.delay ≠ 0#16 ∧
    (∃ t, exec (.tick false) (base .button2Released) = .next t ∧
      t.event ≠ eventCode .button1Pressed ∧ phase tc1 t.event 0 = .none) ∧
    (∃ t, exec (.tick false) { running with soundCount := 9#16, idx := 3#16 } = .next t ∧
      tableOf (phase tc1 t.event 9) = some .bell ∧ tableLen tc1 .bell ≤ (3#16).toNat) :=
  ⟨⟨_, rfl, by decide⟩, ⟨_, rfl, by decide⟩, by decide, ⟨_, rfl, by decide⟩, ⟨_, rfl, by decide⟩⟩

theorem witness_TickInPhaseNoneIsSilent :
    ∃ t, exec (.tick false) { base .button1Released with soundCount := 3#16, amp := 5#8 } = .next t ∧
      tickPhase { base .button1Released with soundCount := 3#16, amp := 5#8 } t.event = .none :=
  ⟨_, rfl, by decide⟩

theorem witness_TickCountsPauseDown :
    ∃ t, exec (.tick false) { running with delay := 1#16 } = .next t ∧
      tickPhase { running with delay := 1#16 } t.event ≠ .none ∧
      0 < { running with delay := 1#16 }.delay.toNat := ⟨_, rfl, by decide⟩

/-- Each phase's clause of the end of a pass, with the cursor just past its table. -/
theorem witness_TickEndsPass :
    (∃ t, exec (.tick false) { running with idx := 4#16 } = .next t ∧
      tickPhase { running with idx := 4#16 } t.event = .starting) ∧
    (∃ t, exec (.tick false) { running with idx := 4#16, soundCount := 3#16 } = .next t ∧
      tickPhase { running with idx := 4#16, soundCount := 3#16 } t.event = .running) ∧
    (∃ t, exec (.tick false) { base .button1Released with idx := 4#16, soundCount := 2#16 } = .next t ∧
      tickPhase { base .button1Released with idx := 4#16, soundCount := 2#16 } t.event = .stopping) ∧
    (∃ t, exec (.tick false) { running with idx := 3#16, soundCount := 5#16 } = .next t ∧
      tickPhase { running with idx := 3#16, soundCount := 5#16 } t.event = .ringing) ∧
    (∃ t, exec (.tick false) { base .button2Pressed with idx := 9#16 } = .next t ∧
      tickPhase { base .button2Pressed with idx := 9#16 } t.event = .whistling) ∧
    tableOf .ringing = some .bell ∧ tableLen tc1 .bell ≤ (3#16).toNat ∧
    tableOf .stopping = some .engine ∧ tableLen tc1 .engine ≤ (4#16).toNat :=
  ⟨⟨_, rfl, by decide⟩, ⟨_, rfl, by decide⟩, ⟨_, rfl, by decide⟩, ⟨_, rfl, by decide⟩,
    ⟨_, rfl, by decide⟩, by decide⟩

/-- The last fade-in tick, the tick before it, and the free value after 255. -/
theorem witness_TickFadesIn :
    (∃ t, exec (.tick false) { running with fade := 2#8 } = .next t ∧
      tableOf (tickPhase { running with fade := 2#8 } t.event) = some .engine ∧
      tickPhase { running with fade := 2#8 } t.event = .starting ∧
      (countAfterRewind tc1 t.event 0#16).toNat = 0) ∧
    memRead tc1 .engine 0 = some 3#8 ∧
    (2#8 ≠ 255#8 → (3#8).toNat = (2#8).toNat + 1) ∧ (3#8).toNat ≤ (3#8).toNat ∧
    (1#8 ≠ 255#8 → (2#8).toNat = (1#8).toNat + 1) ∧ (2#8).toNat < (3#8).toNat ∧
    (255#8 ≠ 255#8 → (Config.freeFade 0).toNat = (255#8).toNat + 1) ∧
    (255#8 = 255#8 → Config.freeFade 0 = Config.freeFade running.freeCount) :=
  ⟨⟨_, rfl, by decide⟩, by decide, by decide, by decide, by decide, by decide, fun h => absurd rfl h,
    fun _ => rfl⟩

/-- The last fade-out tick and the one before it, of a byte 2; and the free value after 255. -/
theorem witness_TickFadesOut :
    (∃ t, exec (.tick false) { running with idx := 3#16, fade := 1#8 } = .next t ∧
      tableOf (tickPhase { running with idx := 3#16, fade := 1#8 } t.event) = some .engine ∧
      (countAfterRewind tc1 t.event 0#16).toNat = 0) ∧
    (3#16).toNat + 1 = tableLen tc1 .engine ∧ memRead tc1 .engine 3 = some 2#8 ∧ 3#16 ≠ 0#16 ∧
    (1#8 ≠ 255#8 → (2#8).toNat = (1#8).toNat + 1) ∧ (2#8).toNat ≤ (2#8).toNat ∧
    (0#8 ≠ 255#8 → (1#8).toNat = (0#8).toNat + 1) ∧ (1#8).toNat < (2#8).toNat ∧
    (255#8 ≠ 255#8 → (Config.freeFade 0).toNat = (255#8).toNat + 1) ∧
    (255#8 = 255#8 → Config.freeFade 0 = Config.freeFade running.freeCount) :=
  ⟨⟨_, rfl, by decide⟩, by decide, by decide, by decide, by decide, by decide, by decide, by decide,
    fun h => absurd rfl h, fun _ => rfl⟩

/-- The last entry before the fade-out, and the first entry of a pass that is not faded in. -/
theorem witness_TickPlaysByte :
    (∃ t, exec (.tick false) { running with idx := 2#16 } = .next t ∧
      tableOf (tickPhase { running with idx := 2#16 } t.event) = some .engine ∧
      (2#16).toNat + 1 < tableLen tc1 .engine ∧ memRead tc1 .engine 2 = some 7#8 ∧ 2#16 ≠ 0#16 ∧
      (2#16).toNat < wordMax) ∧
    (∃ t, exec (.tick false) { running with soundCount := 5#16 } = .next t ∧
      tickPhase { running with soundCount := 5#16 } t.event = .ringing ∧
      (countAfterRewind tc1 t.event 5#16).toNat = 5 ∧ 5 ≠ tc1.r1Lo ∧ 5 ≠ tc1.wLo ∧ 5 ≠ tc1.r2Lo) :=
  ⟨⟨_, rfl, by decide⟩, ⟨_, rfl, by decide⟩⟩

theorem witness_PausesExactWhenWellFormed : tc1.WF ∧ 2 < tc1.tStarted ∧ 2 < tc1.tStopped := by
  decide

theorem witness_SensorMissingStopsMotorAndSound :
    (∃ t, exec (.tick false) { running with windowCount := 39#16 } = .next t ∧
      t.event = eventCode .sensorMissing) ∧
    (base .sensorMissing).event = eventCode .sensorMissing := ⟨⟨_, rfl, by decide⟩, by decide⟩

/-- The four clauses: a pause left, the cursor past the whistle table, at its last entry (a byte 2) with
either end of the fade, and before it. -/
theorem witness_WhistleInheritsCursor :
    running.cfg.WF ∧ { running with fade := 254#8 }.fade.toNat ≤ 254 ∧
    0 < { running with delay := 1#16 }.delay.toNat ∧ running.delay = 0#16 ∧
    running.cfg.whistle.length ≤ { running with idx := 4#16 }.idx.toNat ∧
    { running with idx := 3#16 }.idx.toNat + 1 = running.cfg.whistle.length ∧
    memRead running.cfg .whistle 3 = some 2#8 ∧
    (2#8).toNat ≤ { running with idx := 3#16, fade := 1#8 }.fade.toNat + 1 ∧
    { running with idx := 3#16 }.fade.toNat + 1 < (2#8).toNat ∧
    { running with idx := 2#16 }.idx.toNat + 1 < running.cfg.whistle.length ∧
    memRead running.cfg .whistle 2 = some 5#8 := by decide

theorem witness_StopRampTakesDutyTimesN2Ticks :
    { base .button1Released with motorDuty := 255#8 }.cfg.WF ∧
    { base .button1Released with motorDuty := 255#8 }.event = eventCode .button1Released ∧
    { base .button1Released with motorDuty := 255#8 }.rampCount = 0#16 := by decide

theorem witness_StartRampClosedForm :
    (base .button1Pressed).cfg.WF ∧ (base .button1Pressed).event = eventCode .button1Pressed ∧
    (base .button1Pressed).rampCount = 0#16 ∧ (base .button1Pressed).motorDuty.toNat < 255 ∧
    [true, false] ≠ [] ∧
    ∃ t, runTicks [true, false] (base .button1Pressed) = .next t ∧
      t.event = eventCode .button1Pressed :=
  ⟨by decide, by decide, by decide, by decide, by decide, _, rfl, by decide⟩

/-- A silent window, one with an assertion on its last tick, and an unfinished one. -/
theorem witness_SensorMissingIffWindowSilent :
    running.cfg.WF ∧ running.event = eventCode .button1Pressed ∧ running.sensorEn = true ∧
    running.sensorCount = 0#16 ∧ running.windowCount = 0#16 ∧
    (List.replicate 40 false).length = running.cfg.ticksPerWindow ∧
    (∀ l ∈ List.replicate 40 false, l = false) ∧
    (List.replicate 39 false ++ [true]).length = running.cfg.ticksPerWindow ∧
    (∃ l ∈ List.replicate 39 false ++ [true], l = true) ∧
    (List.replicate 39 true).length < running.cfg.ticksPerWindow := by decide

/-- The first byte 3 of the engine table: an inner tick of the fade and its last. -/
theorem witness_FadeInCountsUp :
    tableOf .starting = some .engine ∧ memRead running.cfg .engine 0 = some 3#8 ∧
    running.delay = 0#16 ∧ running.idx = 0#16 ∧ running.fade = 0#8 ∧
    fadeCond running.cfg .starting running.soundCount.toNat = true ∧
    1 ≤ 2 ∧ 2 < (3#8).toNat ∧ 3 = (3#8).toNat := by decide

/-- The last byte 2 of the engine table: an inner tick of the fade and its last. -/
theorem witness_FadeOutCountsDown :
    tableOf .starting = some .engine ∧ wfTable (tableBytes running.cfg .engine) ∧
    { running with idx := 3#16 }.idx.toNat + 1 = tableLen running.cfg .engine ∧
    memRead running.cfg .engine { running with idx := 3#16 }.idx.toNat = some 2#8 ∧
    running.delay = 0#16 ∧ running.fade = 0#8 ∧ 1 ≤ 1 ∧ 1 < (2#8).toNat ∧ 2 = (2#8).toNat := by decide

/-- A pass that is faded in, of 3 + (4 - 2) + 2 ticks, and one that is not, of 1 + (3 - 2) + 2. -/
theorem witness_PassTakesItsLength :
    tableOf .starting = some .engine ∧ wfTable (tableBytes running.cfg .engine) ∧
    memRead running.cfg .engine 0 = some 3#8 ∧
    memRead running.cfg .engine (tableLen running.cfg .engine - 1) = some 2#8 ∧
    running.delay = 0#16 ∧ running.idx = 0#16 ∧ running.fade = 0#8 ∧
    7 = (if fadeCond running.cfg .starting running.soundCount.toNat = true then (3#8).toNat else 1) +
      (tableLen running.cfg .engine - 2) + (2#8).toNat ∧
    4 = (if fadeCond running.cfg .ringing 5 = true then (2#8).toNat else 1) +
      (tableLen running.cfg .bell - 2) + (2#8).toNat ∧
    0 < 7 ∧ 7 ≤ (passDelay running.cfg .starting running.soundCount.toNat).toNat := by decide

/-- The invariant holds of a run in mid pass, and a tick is its next step. -/
theorem witness_StepKeepsInvariant :
    running.cfg.WF ∧ Inv { running with idx := 2#16, stimuli := [0x41#8] } ∧
    ∃ t, step { running with idx := 2#16, stimuli := [0x41#8] } = .next t := by
  refine ⟨by decide, ⟨by decide, by decide, by decide, by decide, by decide, by decide, by decide,
    by decide, by decide, by decide, by decide, by decide⟩, _, rfl⟩

theorem witness_ResetHasInvariant : tc1.WF := by decide

end Sys2Proof.Tests
end

/-! Proofs about the scope of the block (spec/00_scope.md): the numbered registers and their access
(R7, R36), taking the next stimulus word (R9, R84), and the pauses of a well-formed configuration
(R6 (g), R191). -/

namespace Sys2Proof.Machine

/-! ## Register access -/

@[simp] theorem regOf_regNumber (r : Reg) : regOf (regNumber r) = some r := by
  cases r <;> rfl

theorem regNumber_injective {r r' : Reg} (h : regNumber r = regNumber r') : r = r' := by
  have hof : some r = some r' := by rw [← regOf_regNumber r, h, regOf_regNumber r']
  exact Option.some.inj hof

/-- The register a number names stands at that position of the register list. -/
theorem registers_getElem?_regNumber (s : State) (r : Reg) :
    (registers s)[regNumber r]? = some (readReg s r) := by
  have hr : allRegs[regNumber r]? = some r := regOf_regNumber r
  rw [registers, List.getElem?_map, hr, Option.map_some]

/-- A register write replaces one entry of the register list, by as many low bits of the value as the
register is wide. -/
theorem registers_writeReg (s : State) (r : Reg) (v : Nat) :
    registers (writeReg s r v) = (registers s).set (regNumber r) (v % 2 ^ regWidth r) := by
  cases r
  case sensorEn =>
    have hbit : (v.testBit 0).toNat = v % 2 ^ 1 := by simp [Nat.toNat_testBit, -Nat.testBit_zero]
    rw [regWidth, ← hbit]
    rfl
  all_goals rfl

theorem readReg_writeReg_same {s : State} {r : Reg} {v : Nat} (hv : v < 2 ^ regWidth r) :
    readReg (writeReg s r v) r = v := by
  obtain ⟨hlt, -⟩ := List.getElem?_eq_some_iff.mp (registers_getElem?_regNumber s r)
  have hread := registers_getElem?_regNumber (writeReg s r v) r
  rw [registers_writeReg, List.getElem?_set_self hlt, Nat.mod_eq_of_lt hv] at hread
  exact (Option.some.inj hread).symm

theorem readReg_writeReg_ne {s : State} {r r' : Reg} (v : Nat) (hne : r' ≠ r) :
    readReg (writeReg s r v) r' = readReg s r' := by
  have hnum : regNumber r ≠ regNumber r' := fun h => hne (regNumber_injective h).symm
  have hread := registers_getElem?_regNumber (writeReg s r v) r'
  rw [registers_writeReg, List.getElem?_set_ne hnum, registers_getElem?_regNumber] at hread
  exact (Option.some.inj hread).symm

/-- Settles O13, through the register list: a write sets the entry at the register's number, and different
registers have different numbers. -/
theorem registerWriteReadsBack : Obligations.RegisterWriteReadsBack :=
  ⟨regOf_regNumber, fun _ _ v hv =>
    ⟨readReg_writeReg_same hv, fun _ hne => readReg_writeReg_ne v hne⟩⟩

/-! ## Taking the next stimulus word -/

theorem decode_cons_of_decodeByte {w : Byte} {i : Instr} (hd : decodeByte w = .ok i)
    (rest : List Byte) : decode (w :: rest) = .ok (i, rest) := by
  simp only [decode, hd]

/-- The converse of `fetch_ok`. -/
theorem fetch_of_decodeByte {s : State} {w : Byte} {rest : List Byte} {i : Instr}
    (hs : s.stimuli = w :: rest) (hd : decodeByte w = .ok i) :
    fetch s = .ok (i, { s with stimuli := rest }) := by
  simp only [fetch, hs, decode_cons_of_decodeByte hd]

theorem step_of_decodeByte {s : State} {w : Byte} {rest : List Byte} {i : Instr}
    (hs : s.stimuli = w :: rest) (hd : decodeByte w = .ok i) :
    step s = exec i { s with stimuli := rest } := by
  simp only [step, fetch_of_decodeByte hs hd]

/-- Settles O8. -/
theorem stepPerformsNextOperation : Obligations.StepPerformsNextOperation :=
  fun _ _ _ _ hs hd => step_of_decodeByte hs hd

/-! ## The pauses of a well-formed configuration -/

/-- The change of the pause at a pass count below `bound` is at most the one at the last such count. -/
theorem mul_delayInc_le_last {n bound : Nat} (h : n < bound) (inc : Nat) :
    n * inc ≤ (bound - 1) * inc :=
  Nat.mul_le_mul_right inc (Nat.le_sub_one_of_lt h)

/-- R179: neither the truncated subtraction nor the register cuts the Starting pause. -/
theorem passDelay_starting_exact {c : Config} (hc : c.wfDelays) {n : Nat} (h : n < c.tStarted) :
    (passDelay c .starting n).toNat + n * c.delayInc = c.delayMax := by
  obtain ⟨-, hmax, hstart, -⟩ := hc
  have hsub : n * c.delayInc ≤ c.delayMax := (mul_delayInc_le_last h c.delayInc).trans hstart
  have hfits : c.delayMax - n * c.delayInc ≤ wordMax := (Nat.sub_le _ _).trans hmax
  rw [passDelay, satW_toNat_of_le hfits, Nat.sub_add_cancel hsub]

/-- R180. -/
theorem passDelay_running_exact {c : Config} (hc : c.wfDelays) (n : Nat) :
    (passDelay c .running n).toNat = c.delayMin := by
  obtain ⟨hmin, hmax, -, -⟩ := hc
  rw [passDelay, satW_toNat_of_le (hmin.trans hmax)]

/-- R181. -/
theorem passDelay_stopping_exact {c : Config} (hc : c.wfDelays) {n : Nat} (h : n < c.tStopped) :
    (passDelay c .stopping n).toNat = c.delayMin + n * c.delayInc := by
  obtain ⟨-, -, -, hstop⟩ := hc
  have hfits : c.delayMin + n * c.delayInc ≤ wordMax :=
    (Nat.add_le_add_left (mul_delayInc_le_last h c.delayInc) c.delayMin).trans hstop
  rw [passDelay, satW_toNat_of_le hfits]

/-- Settles O44: of well-formedness only R6 (g) matters, and it bounds the pause of the
last pass of each phase, and with it those of the passes before. -/
theorem pausesExactWhenWellFormed : Obligations.PausesExactWhenWellFormed := by
  intro c n hwf
  obtain ⟨-, -, -, -, -, -, hdelays, -, -⟩ := hwf
  exact ⟨passDelay_starting_exact hdelays, passDelay_running_exact hdelays n,
    passDelay_stopping_exact hdelays⟩

end Sys2Proof.Machine

/-! Proofs about the state (spec/10_state.md): what one operation does to the event, the sensor enable, the
duty and the outputs (R22, R122, R123, R135, R153), and the invariant of R44, which the reset state has and
every step keeps. -/

namespace Sys2Proof.Machine

/-! ## What one operation can do -/

theorem exists_map_memRead {α : Type} {c : Config} {t : TableId} {i : Nat} (h : i < tableLen c t)
    (f : Byte → α) : ∃ u, (memRead c t i).map f = some u := by
  obtain ⟨b, hb⟩ := memRead_of_lt h
  exact ⟨f b, by rw [hb, Option.map_some]⟩

/-- R62: the engine reads only inside the table. -/
theorem exists_playTable (p : Phase) (t : TableId) (s : State) : ∃ u, playTable p t s = some u := by
  unfold playTable
  split
  · exact ⟨_, rfl⟩
  · split
    · exact exists_map_memRead (by omega) _
    · split
      · exact exists_map_memRead (by omega) _
      · exact exists_map_memRead (by omega) _

theorem exists_playback (p : Phase) (s : State) : ∃ u, playback p s = some u := by
  unfold playback
  split
  · exact ⟨_, rfl⟩
  · split
    · exact ⟨_, rfl⟩
    · exact exists_playTable p _ s

theorem exists_tick (level : Bool) (s : State) : ∃ t, tick level s = some t := by
  obtain ⟨u, hu⟩ := exists_playback (selectedPhase (tickFront level s)) (tickFront level s)
  exact ⟨writeOutputs u, by rw [tick, hu, Option.map_some]⟩

theorem exec_tick (level : Bool) (s : State) : exec (.tick level) s = execTick level s := by
  rfl

theorem exec_tick_of_tick {level : Bool} {s t : State} (h : tick level s = some t) :
    exec (.tick level) s = .next t := by
  rw [exec_tick, execTick, h]

/-- An operation is a tick, a pin change under one of its spellings, `RESET` or `IDLE` (R9, R94), and it
answers a next state. -/
theorem exec_cases (i : Instr) (s : State) :
    (∃ level t, i = .tick level ∧ tick level s = some t ∧ exec i s = .next t) ∨
    (∃ f1 h1 f2 h2, i.expand = .pinchg f1 h1 f2 h2 ∧ exec i s = .next (pinChange f1 h1 f2 h2 s)) ∨
    (i = .reset ∧ exec i s = .next (resetRegisters s)) ∨
    (i = .idle ∧ exec i s = .next s) := by
  cases i with
  | tick level =>
    obtain ⟨t, ht⟩ := exists_tick level s
    exact Or.inl ⟨level, t, rfl, ht, exec_tick_of_tick ht⟩
  | pinchg | press1 | bounce1 | press2 | bounce2 | press12 | other | release2 =>
    exact Or.inr (Or.inl ⟨_, _, _, _, rfl, rfl⟩)
  | reset => exact Or.inr (Or.inr (Or.inl ⟨rfl, rfl⟩))
  | idle => exact Or.inr (Or.inr (Or.inr ⟨rfl, rfl⟩))

/-! ## The sub-steps of a tick, field by field -/

@[simp] theorem sensorWatch_motorDuty (level : Bool) (s : State) :
    (sensorWatch level s).motorDuty = s.motorDuty := by
  obtain ⟨e, c, w, h, -⟩ := sensorWatch_cases level s
  rw [h]

@[simp] theorem sensorWatch_rampCount (level : Bool) (s : State) :
    (sensorWatch level s).rampCount = s.rampCount := by
  obtain ⟨e, c, w, h, -⟩ := sensorWatch_cases level s
  rw [h]

@[simp] theorem sensorWatch_sensorEn (level : Bool) (s : State) :
    (sensorWatch level s).sensorEn = s.sensorEn := by
  obtain ⟨e, c, w, h, -⟩ := sensorWatch_cases level s
  rw [h]

@[simp] theorem sensorWatch_cfg (level : Bool) (s : State) :
    (sensorWatch level s).cfg = s.cfg := by
  obtain ⟨e, c, w, h, -⟩ := sensorWatch_cases level s
  rw [h]

@[simp] theorem sensorWatch_stimuli (level : Bool) (s : State) :
    (sensorWatch level s).stimuli = s.stimuli := by
  obtain ⟨e, c, w, h, -⟩ := sensorWatch_cases level s
  rw [h]

/-- R134: the watch changes the event only from Button1Pressed to SensorMissing. -/
theorem sensorWatch_event_cases (level : Bool) (s : State) :
    (sensorWatch level s).event = s.event ∨
    (s.event = eventCode .button1Pressed ∧
      (sensorWatch level s).event = eventCode .sensorMissing) := by
  obtain ⟨e, c, w, h, he⟩ := sensorWatch_cases level s
  rw [h]
  exact he

/-- R133: the window test closes a window that is full. -/
theorem sensorWatch_windowCount_lt (level : Bool) {s : State} (h : 1 ≤ s.cfg.ticksPerWindow) :
    (sensorWatch level s).windowCount.toNat < s.cfg.ticksPerWindow := by
  have hcfg : (incWindow (countSensor level s)).cfg = s.cfg := by
    unfold countSensor
    split <;> rfl
  unfold sensorWatch closeWindow
  split
  · exact h
  · rename_i hopen
    rw [hcfg] at hopen
    exact Nat.lt_of_not_le hopen

@[simp] theorem motorRamp_event (s : State) : (motorRamp s).event = s.event := by
  obtain ⟨d, r, h⟩ := motorRamp_frame s
  rw [h]

@[simp] theorem motorRamp_sensorEn (s : State) : (motorRamp s).sensorEn = s.sensorEn := by
  obtain ⟨d, r, h⟩ := motorRamp_frame s
  rw [h]

@[simp] theorem motorRamp_windowCount (s : State) : (motorRamp s).windowCount = s.windowCount := by
  obtain ⟨d, r, h⟩ := motorRamp_frame s
  rw [h]

@[simp] theorem motorRamp_cfg (s : State) : (motorRamp s).cfg = s.cfg := by
  obtain ⟨d, r, h⟩ := motorRamp_frame s
  rw [h]

@[simp] theorem motorRamp_stimuli (s : State) : (motorRamp s).stimuli = s.stimuli := by
  obtain ⟨d, r, h⟩ := motorRamp_frame s
  rw [h]

/-- R145: the action of the ramp for each event. -/
theorem motorRamp_cases (s : State) :
    (s.event = eventCode .button1Pressed ∧ motorRamp s = rampUp s) ∨
    (s.event = eventCode .button1Released ∧ motorRamp s = rampDown s) ∨
    ((s.event = eventCode .button2Pressed ∨ s.event = eventCode .sensorMissing ∨
      s.event = eventCode .button2Released) ∧ motorRamp s = forceStop s) ∨
    motorRamp s = s := by
  rcases event_cases s.event with h | h | h | h | h | h | h
  · simp [motorRamp, h]
  · simp [motorRamp, h]
  · simp [motorRamp, h]
  · simp [motorRamp, h]
  · simp [motorRamp, h]
  · simp [motorRamp, h]
  · simp [motorRamp, eventOf_reserved h]

/-- R152: event None holds the motor. -/
theorem motorRamp_of_none {s : State} (h : s.event = eventCode .none) : motorRamp s = s := by
  simp [motorRamp, h]

/-- R146 to R148. -/
theorem rampUp_cases (s : State) :
    (s.rampCount = 0#16 ∧ rampUp s = { s with motorDuty := s.cfg.motorStart, rampCount := 1#16 }) ∨
    (s.motorDuty.toNat < motorMax ∧
      rampUp s = { s with motorDuty := s.motorDuty + 1#8, rampCount := 1#16 }) ∨
    (s.rampCount.toNat < s.cfg.n1 ∧
      rampUp s = { s with rampCount := satW (s.rampCount.toNat + 1) }) ∨
    rampUp s = s := by
  unfold rampUp
  split
  · split
    · exact Or.inl ⟨‹_›, rfl⟩
    · split
      · exact Or.inr (Or.inl ⟨‹_›, rfl⟩)
      · exact Or.inr (Or.inr (Or.inl ⟨by omega, rfl⟩))
  · exact Or.inr (Or.inr (Or.inr rfl))

/-- R149, R150. -/
theorem rampDown_cases (s : State) :
    (0 < s.motorDuty.toNat ∧
      rampDown s = { s with motorDuty := s.motorDuty - 1#8, rampCount := 0#16 }) ∨
    (s.rampCount.toNat + 1 < s.cfg.n2 ∧
      rampDown s = { s with rampCount := satW (s.rampCount.toNat + 1) }) ∨
    rampDown s = s := by
  unfold rampDown
  split
  · split
    · exact Or.inl ⟨‹_›, rfl⟩
    · exact Or.inr (Or.inl ⟨by omega, rfl⟩)
  · exact Or.inr (Or.inr rfl)

theorem byte_succ_toNat {d : Byte} (h : d.toNat < motorMax) : (d + 1#8).toNat = d.toNat + 1 :=
  fade_succ_toNat (Nat.le_of_lt_succ h)

theorem byte_pred_toNat {d : Byte} (h : 0 < d.toNat) : (d - 1#8).toNat + 1 = d.toNat := by
  bv_omega

/-- R153: the ramp moves the duty by at most one, jumps to the start value, or stops the motor. -/
theorem motorRamp_motorDuty (s : State) :
    ((motorRamp s).motorDuty.toNat ≤ s.motorDuty.toNat + 1 ∧
      s.motorDuty.toNat ≤ (motorRamp s).motorDuty.toNat + 1) ∨
    (s.event = eventCode .button1Pressed ∧ s.rampCount = 0#16 ∧
      (motorRamp s).motorDuty = s.cfg.motorStart) ∨
    ((s.event = eventCode .button2Pressed ∨ s.event = eventCode .sensorMissing ∨
      s.event = eventCode .button2Released) ∧ (motorRamp s).motorDuty = 0#8) := by
  rcases motorRamp_cases s with ⟨he, h⟩ | ⟨-, h⟩ | ⟨he, h⟩ | h <;> rw [h]
  · rcases rampUp_cases s with ⟨hr, h⟩ | ⟨hd, h⟩ | ⟨-, h⟩ | h <;> rw [h]
    · exact Or.inr (Or.inl ⟨he, hr, rfl⟩)
    · have hsucc := byte_succ_toNat hd
      exact Or.inl ⟨by simp only; omega, by simp only; omega⟩
    · exact Or.inl ⟨Nat.le_succ _, Nat.le_succ _⟩
    · exact Or.inl ⟨Nat.le_succ _, Nat.le_succ _⟩
  · rcases rampDown_cases s with ⟨hd, h⟩ | ⟨-, h⟩ | h <;> rw [h]
    · have hpred := byte_pred_toNat hd
      exact Or.inl ⟨by simp only; omega, by simp only; omega⟩
    · exact Or.inl ⟨Nat.le_succ _, Nat.le_succ _⟩
    · exact Or.inl ⟨Nat.le_succ _, Nat.le_succ _⟩
  · exact Or.inr (Or.inr ⟨he, rfl⟩)
  · exact Or.inl ⟨Nat.le_succ _, Nat.le_succ _⟩

/-- R24, R44 (c): the ramp keeps its prescaler within `N1`. -/
theorem motorRamp_rampBounded {s : State} (hc : s.cfg.wfRamp) (h : rampBounded s) :
    rampBounded (motorRamp s) := by
  obtain ⟨hn2, hn1, -⟩ := hc
  unfold rampBounded at *
  rw [motorRamp_cfg]
  rcases motorRamp_cases s with ⟨-, hm⟩ | ⟨-, hm⟩ | ⟨-, hm⟩ | hm <;> rw [hm]
  · rcases rampUp_cases s with ⟨-, hu⟩ | ⟨-, hu⟩ | ⟨hlt, hu⟩ | hu <;> rw [hu]
    · exact hn2.trans hn1.le
    · exact hn2.trans hn1.le
    · simpa using satSucc_le_of_lt hlt
    · exact h
  · rcases rampDown_cases s with ⟨-, hd⟩ | ⟨hlt, hd⟩ | hd <;> rw [hd]
    · exact Nat.zero_le _
    · simpa using satSucc_le_of_lt (show s.rampCount.toNat < s.cfg.n1 by omega)
    · exact h
  · exact h
  · exact h

/-! ## A tick, field by field -/

/-- What a tick leaves of its first two sub-steps: the rewind and the engine write only the six fields
named here, and the outputs are written last (R131, R135). -/
theorem tick_eq {level : Bool} {s t : State} (h : tick level s = some t) :
    ∃ i f d a n k, t = { motorRamp (sensorWatch level s) with
      idx := i, fade := f, delay := d, amp := a, soundCount := n, freeCount := k
      motorPwm := (motorRamp (sensorWatch level s)).motorDuty, audioPwm := a } := by
  obtain ⟨u, hu, rfl⟩ := tick_cases h
  obtain ⟨i, f, d, a, n, k, rfl⟩ := playback_frame hu
  rw [tickFront, rewind_eq]
  exact ⟨i, f, d, a, n, k, rfl⟩

theorem tick_event {level : Bool} {s t : State} (h : tick level s = some t) :
    t.event = (sensorWatch level s).event := by
  obtain ⟨i, f, d, a, n, k, rfl⟩ := tick_eq h
  exact motorRamp_event _

theorem tick_event_cases {level : Bool} {s t : State} (h : tick level s = some t) :
    t.event = s.event ∨
    (s.event = eventCode .button1Pressed ∧ t.event = eventCode .sensorMissing) := by
  rw [tick_event h]
  exact sensorWatch_event_cases level s

theorem tick_windowCount {level : Bool} {s t : State} (h : tick level s = some t) :
    t.windowCount = (sensorWatch level s).windowCount := by
  obtain ⟨i, f, d, a, n, k, rfl⟩ := tick_eq h
  exact motorRamp_windowCount _

theorem tick_motorDuty {level : Bool} {s t : State} (h : tick level s = some t) :
    t.motorDuty = (motorRamp (sensorWatch level s)).motorDuty := by
  obtain ⟨i, f, d, a, n, k, rfl⟩ := tick_eq h
  rfl

theorem tick_rampCount {level : Bool} {s t : State} (h : tick level s = some t) :
    t.rampCount = (motorRamp (sensorWatch level s)).rampCount := by
  obtain ⟨i, f, d, a, n, k, rfl⟩ := tick_eq h
  rfl

theorem tick_outputsFresh {level : Bool} {s t : State} (h : tick level s = some t) :
    outputsFresh t := by
  obtain ⟨i, f, d, a, n, k, rfl⟩ := tick_eq h
  exact ⟨rfl, rfl⟩

/-- R22, R70, R130: what a tick only reads. -/
theorem tick_frame {level : Bool} {s t : State} (h : tick level s = some t) :
    t.sensorEn = s.sensorEn ∧ t.cfg = s.cfg ∧ t.stimuli = s.stimuli := by
  obtain ⟨i, f, d, a, n, k, rfl⟩ := tick_eq h
  simp

/-! ## A pin change, field by field -/

theorem pinChange_frame (f1 h1 f2 h2 : Bool) (s : State) :
    (pinChange f1 h1 f2 h2 s).cfg = s.cfg ∧ (pinChange f1 h1 f2 h2 s).motorDuty = s.motorDuty ∧
    (pinChange f1 h1 f2 h2 s).amp = s.amp ∧ (pinChange f1 h1 f2 h2 s).motorPwm = s.motorPwm ∧
    (pinChange f1 h1 f2 h2 s).audioPwm = s.audioPwm := by
  rcases pinChange_cases f1 h1 f2 h2 s with h | ⟨-, -, -, h⟩ | ⟨-, -, -, -, h⟩ | ⟨-, -, -, h⟩ |
    ⟨-, h, hb⟩
  · simp [h]
  · simp [h]
  · simp [h]
  · simp [h]
  · rcases hb with hb | ⟨-, -, hb⟩ | ⟨-, -, -, hb⟩ <;> simp [h, hb]

/-- R122: the event a pin change leaves, with its cause. -/
theorem pinChange_event_cases (f1 h1 f2 h2 : Bool) (s : State) :
    (pinChange f1 h1 f2 h2 s).event = s.event ∨
    ((f1 = true ∧ h1 = true) ∧ (pinChange f1 h1 f2 h2 s).event = eventCode .button1Pressed) ∨
    ((f1 = true ∧ h1 = true) ∧ s.event = eventCode .button1Pressed ∧
      s.cfg.tStopped ≤ s.soundCount.toNat ∧
      (pinChange f1 h1 f2 h2 s).event = eventCode .button1Released) ∨
    ((f2 = true ∧ h2 = true) ∧ (pinChange f1 h1 f2 h2 s).event = eventCode .button2Pressed) ∨
    ((f1 = false ∧ f2 = false) ∧ s.event = eventCode .button2Pressed ∧
      (pinChange f1 h1 f2 h2 s).event = eventCode .button2Released) := by
  rcases pinChange_cases f1 h1 f2 h2 s with h | ⟨hp, -, -, h⟩ | ⟨hp, -, he, hg, h⟩ | ⟨hf1, hf2, he, h⟩ |
    ⟨hp, h, -⟩ <;> rw [h]
  · exact Or.inl rfl
  · exact Or.inr (Or.inl ⟨pressed_iff.mp hp, rfl⟩)
  · exact Or.inr (Or.inr (Or.inl ⟨pressed_iff.mp hp, he, hg, rfl⟩))
  · exact Or.inr (Or.inr (Or.inr (Or.inr ⟨⟨hf1, hf2⟩, he, rfl⟩)))
  · exact Or.inr (Or.inr (Or.inr (Or.inl ⟨pressed_iff.mp hp, rfl⟩)))

/-- R123: `sensor_en` is written by the Button1 step alone, at a start and at a stop. -/
theorem pinChange_sensorEn_cases (f1 h1 f2 h2 : Bool) (s : State) :
    (pinChange f1 h1 f2 h2 s).sensorEn = s.sensorEn ∨
    ((f1 = true ∧ h1 = true) ∧ s.event ≠ eventCode .button1Pressed ∧
      (pinChange f1 h1 f2 h2 s).sensorEn = true) ∨
    ((f1 = true ∧ h1 = true) ∧ s.event = eventCode .button1Pressed ∧
      s.cfg.tStopped ≤ s.soundCount.toNat ∧ (pinChange f1 h1 f2 h2 s).sensorEn = false) := by
  rcases pinChange_cases f1 h1 f2 h2 s with h | ⟨hp, -, he, h⟩ | ⟨hp, -, he, hg, h⟩ | ⟨-, -, -, h⟩ |
    ⟨-, h, hb⟩ <;> rw [h]
  · exact Or.inl rfl
  · exact Or.inr (Or.inl ⟨pressed_iff.mp hp, he, rfl⟩)
  · exact Or.inr (Or.inr ⟨pressed_iff.mp hp, he, hg, rfl⟩)
  · exact Or.inl rfl
  · rcases hb with hb | ⟨hp, he, hb⟩ | ⟨hp, he, hg, hb⟩ <;> rw [hb]
    · exact Or.inl rfl
    · exact Or.inr (Or.inl ⟨pressed_iff.mp hp, he, rfl⟩)
    · exact Or.inr (Or.inr ⟨pressed_iff.mp hp, he, hg, rfl⟩)

/-! ## The event, the sensor enable, the duty and the outputs -/

@[simp] theorem eventCode_toNat_le (e : Event) : (eventCode e).toNat ≤ 5 := by
  cases e <;> decide

/-- A bit that is kept neither rises nor falls. -/
theorem no_rise_no_fall_of_eq {a b : Bool} (h : b = a) (p q : Prop) :
    (a = false → b = true → p) ∧ (a = true → b = false → q) := by
  subst h
  exact ⟨fun hf ht => absurd (hf.symm.trans ht) Bool.false_ne_true,
    fun ht hf => absurd (hf.symm.trans ht) Bool.false_ne_true⟩

/-- Settles O28: an operation keeps the event or writes one of the six, each under the guard of its
rule. -/
theorem eventEntryCauses : Obligations.EventEntryCauses := by
  intro i s hlegal
  rcases exec_cases i s with ⟨level, t, hi, ht, hx⟩ | ⟨f1, h1, f2, h2, hi, hx⟩ | ⟨hi, hx⟩ | ⟨-, hx⟩ <;>
    refine ⟨_, hx, ?_⟩
  · rcases tick_event_cases ht with he | ⟨hs, he⟩ <;> rw [he]
    · exact ⟨hlegal, Or.inr, Or.inl, Or.inl, Or.inl, Or.inl, Or.inl⟩
    · simp [hs, hi]
  · rcases pinChange_event_cases f1 h1 f2 h2 s with he | ⟨⟨rfl, rfl⟩, he⟩ | ⟨⟨rfl, rfl⟩, hs, hg, he⟩ |
      ⟨⟨rfl, rfl⟩, he⟩ | ⟨⟨rfl, rfl⟩, hs, he⟩ <;> rw [he]
    · exact ⟨hlegal, Or.inr, Or.inl, Or.inl, Or.inl, Or.inl, Or.inl⟩
    · simp [hi]
    · simp [hi, hs, hg]
    · simp [hi]
    · simp [hi, hs]
  · simp [hi, resetRegisters]
  · exact ⟨hlegal, Or.inr, Or.inl, Or.inl, Or.inl, Or.inl, Or.inl⟩

/-- Settles O29. -/
theorem sensorEnableChangesOnButton1Only : Obligations.SensorEnableChangesOnButton1Only := by
  intro i s
  rcases exec_cases i s with ⟨level, t, -, ht, hx⟩ | ⟨f1, h1, f2, h2, hi, hx⟩ | ⟨hi, hx⟩ | ⟨-, hx⟩ <;>
    refine ⟨_, hx, ?_⟩
  · obtain ⟨hen, -, -⟩ := tick_frame ht
    exact no_rise_no_fall_of_eq hen _ _
  · rcases pinChange_sensorEn_cases f1 h1 f2 h2 s with hen | ⟨⟨rfl, rfl⟩, hs, hen⟩ |
      ⟨⟨rfl, rfl⟩, hs, hg, hen⟩
    · exact no_rise_no_fall_of_eq hen _ _
    · simp [hen, hs, hi]
    · simp [hen, hs, hg, hi]
  · simp [hi, resetRegisters]
  · exact no_rise_no_fall_of_eq rfl _ _

/-- Settles O33: the ramp of a tick acts on the state the sensor watch leaves, which has the old duty and
prescaler. -/
theorem dutyMovesByOneOrJumps : Obligations.DutyMovesByOneOrJumps := by
  intro level s
  obtain ⟨t, ht⟩ := exists_tick level s
  refine ⟨t, exec_tick_of_tick ht, ?_⟩
  have hramp := motorRamp_motorDuty (sensorWatch level s)
  rw [← tick_motorDuty ht, ← tick_event ht] at hramp
  simpa using hramp

/-- Settles O34. -/
theorem outputsWrittenByTickOnly : Obligations.OutputsWrittenByTickOnly := by
  constructor
  · intro level s
    obtain ⟨t, ht⟩ := exists_tick level s
    obtain ⟨hmotor, haudio⟩ := tick_outputsFresh ht
    exact ⟨t, exec_tick_of_tick ht, hmotor, haudio, tick_frame ht⟩
  · intro i s htick hreset
    rcases exec_cases i s with ⟨level, -, hi, -⟩ | ⟨f1, h1, f2, h2, -, hx⟩ | ⟨hi, -⟩ | ⟨-, hx⟩
    · exact absurd hi (htick level)
    · obtain ⟨-, -, -, hmotor, haudio⟩ := pinChange_frame f1 h1 f2 h2 s
      exact ⟨_, hx, hmotor, haudio⟩
    · exact absurd hi hreset
    · exact ⟨s, hx, rfl, rfl⟩

theorem phase_none (c : Config) (n : Nat) : phase c (eventCode .none) n = .none := by
  simp [phase]

/-- Settles O15: event None has phase None in every configuration (R165). -/
theorem resetStateIsZero : Obligations.ResetStateIsZero :=
  ⟨rfl, rfl, phase_none _ _, fun c => phase_none c _⟩

/-! ## The cursor of the engine -/

/-- R26, R44 (h): where the cursor and the fade can stand in a table of `len` entries. -/
def cursorFits (len : Nat) (s : State) : Prop :=
  s.idx.toNat ≤ len ∧ (s.fade ≠ 0#8 → s.idx = 0#16 ∨ s.idx.toNat + 1 = len)

theorem cursorFits_of_start {s : State} (hidx : s.idx = 0#16) (hfade : s.fade = 0#8) (len : Nat) :
    cursorFits len s :=
  ⟨by simp [hidx], fun h => absurd hfade h⟩

theorem cursorInTable_iff (s : State) :
    cursorInTable s ↔
      (s.event = eventCode .button1Pressed ∨ s.event = eventCode .button1Released) →
        ∀ t, tableOf (tickPhase s s.event) = some t → cursorFits (tableLen s.cfg t) s :=
  Iff.rfl

theorem fadeInTick_cursor (b : Byte) (s : State) :
    ((fadeInTick b s).idx = 1#16 ∧ (fadeInTick b s).fade = 0#8) ∨
    ((fadeInTick b s).idx = s.idx ∧ (fadeInTick b s).fade.toNat < b.toNat) := by
  obtain ⟨v, n, h⟩ := incFade_frame s
  simp only [fadeInTick, h]
  split
  · exact Or.inl ⟨rfl, rfl⟩
  · exact Or.inr ⟨rfl, Nat.lt_of_not_le ‹_›⟩

theorem fadeOutTick_cursor (b : Byte) (len : Nat) (s : State) :
    ((fadeOutTick b len s).idx = satW len ∧ (fadeOutTick b len s).fade = 0#8) ∨
    ((fadeOutTick b len s).idx = s.idx ∧ (fadeOutTick b len s).fade.toNat < b.toNat) := by
  obtain ⟨v, n, h⟩ := incFade_frame s
  simp only [fadeOutTick, h]
  split
  · exact Or.inl ⟨rfl, rfl⟩
  · exact Or.inr ⟨rfl, Nat.lt_of_not_le ‹_›⟩

theorem fadeInTick_soundCount (b : Byte) (s : State) : (fadeInTick b s).soundCount = s.soundCount := by
  obtain ⟨i, f, a, n, h⟩ := fadeInTick_frame b s
  rw [h]

theorem fadeOutTick_soundCount (b : Byte) (len : Nat) (s : State) :
    (fadeOutTick b len s).soundCount = s.soundCount := by
  obtain ⟨i, f, a, n, h⟩ := fadeOutTick_frame b len s
  rw [h]

/-- A fade still under way after a tick stays below the boundary byte, so below 255 (R27). -/
theorem fadeBounded_of_lt {s : State} {b : Byte} (h : s.fade.toNat < b.toNat) : fadeBounded s := by
  have := b.isLt
  omega

theorem fadeBounded_of_zero {s : State} (h : s.fade = 0#8) : fadeBounded s := by
  simp [fadeBounded, h]

theorem fadeInTick_cursorFits {len : Nat} {s : State} (hlen : s.idx.toNat < len) (hidx : s.idx = 0#16)
    (b : Byte) : cursorFits len (fadeInTick b s) ∧ fadeBounded (fadeInTick b s) := by
  rcases fadeInTick_cursor b s with ⟨hi, hf⟩ | ⟨hi, hf⟩
  · exact ⟨⟨by simp [hi]; omega, fun h => absurd hf h⟩, fadeBounded_of_zero hf⟩
  · exact ⟨⟨by rw [hi]; exact hlen.le, fun _ => Or.inl (hi.trans hidx)⟩, fadeBounded_of_lt hf⟩

theorem fadeOutTick_cursorFits {len : Nat} {s : State} (hidx : s.idx.toNat + 1 = len) (b : Byte) :
    cursorFits len (fadeOutTick b len s) ∧ fadeBounded (fadeOutTick b len s) := by
  rcases fadeOutTick_cursor b len s with ⟨hi, hf⟩ | ⟨hi, hf⟩
  · exact ⟨⟨by simp [hi], fun h => absurd hf h⟩, fadeBounded_of_zero hf⟩
  · exact ⟨⟨by rw [hi]; omega, fun _ => Or.inr (by rw [hi, hidx])⟩, fadeBounded_of_lt hf⟩

theorem normalTick_cursorFits {len : Nat} {s : State} (hidx : s.idx.toNat + 1 < len) (b : Byte) :
    cursorFits len (normalTick b s) ∧ fadeBounded (normalTick b s) :=
  ⟨⟨by simp; omega, fun h => absurd rfl h⟩, fadeBounded_of_zero rfl⟩

/-- What the engine does to cursor and count, in the phase `p` with the count `n` (R175): it lets the
cursor rest (R176, R177), ends the pass (R178), or plays in the phase's table (R185 to R187). -/
inductive CursorMove (p : Phase) (n : Word) (s t : State) : Prop
  | rest (idx : t.idx = s.idx) (fade : t.fade = s.fade) (count : t.soundCount = n)
  | endPass (tb : TableId) (table : tableOf p = some tb) (idx : t.idx = 0#16) (fade : t.fade = 0#8)
      (delay : t.delay = passDelay s.cfg p n.toNat) (count : t.soundCount = satW (n.toNat + 1))
  | play (tb : TableId) (table : tableOf p = some tb) (fits : cursorFits (tableLen s.cfg tb) t)
      (fade : fadeBounded t) (count : t.soundCount = n)

theorem playTable_cursorMove {p : Phase} {tb : TableId} {s u : State} (htb : tableOf p = some tb)
    (h : playTable p tb s = some u) : CursorMove p s.soundCount s u := by
  rcases playTable_cases h with ⟨-, rfl⟩ | ⟨hlt, hidx, -, b, -, rfl⟩ | ⟨hidx, -, b, -, rfl⟩ |
    ⟨hidx, -, b, -, rfl⟩
  · exact .endPass tb htb rfl rfl rfl rfl
  · obtain ⟨hfits, hfade⟩ := fadeInTick_cursorFits hlt hidx b
    exact .play tb htb hfits hfade (fadeInTick_soundCount b s)
  · obtain ⟨hfits, hfade⟩ := fadeOutTick_cursorFits hidx b
    exact .play tb htb hfits hfade (fadeOutTick_soundCount b _ s)
  · obtain ⟨hfits, hfade⟩ := normalTick_cursorFits hidx b
    exact .play tb htb hfits hfade rfl

theorem playback_cursorMove {p : Phase} {s u : State} (h : playback p s = some u) :
    CursorMove p s.soundCount s u := by
  rcases playback_cases h with ⟨-, rfl⟩ | ⟨tb, -, -, rfl⟩ | ⟨tb, htb, -, hu⟩
  · exact .rest rfl rfl rfl
  · exact .rest rfl rfl rfl
  · exact playTable_cursorMove htb hu

/-- A tick moves the cursor in the phase, and from the count, that the rewind leaves. -/
theorem tick_cursorMove {level : Bool} {s t : State} (h : tick level s = some t) :
    CursorMove (tickPhase s t.event) (countAfterRewind s.cfg t.event s.soundCount) s t := by
  obtain ⟨u, hu, rfl⟩ := tick_cases h
  obtain ⟨e, c, w, d, r, -, -, hfront, -⟩ := tickFront_cases level s
  rw [hfront] at hu
  have hevent : u.event = e := by
    obtain ⟨_, _, _, _, _, _, rfl⟩ := playback_frame hu
    rfl
  rw [writeOutputs_event, hevent]
  cases playback_cursorMove hu with
  | rest idx fade count => exact .rest idx fade count
  | endPass tb table idx fade delay count => exact .endPass tb table idx fade delay count
  | play tb table fits fade count => exact .play tb table fits fade count

/-- R176: a tick in phase None is silent. -/
theorem tick_amp_of_phase_none {level : Bool} {s t : State} (h : tick level s = some t)
    (hp : tickPhase s t.event = .none) : t.amp = 0#8 := by
  obtain ⟨u, hu, rfl⟩ := tick_cases h
  have hevent : u.event = (tickFront level s).event := by
    obtain ⟨_, _, _, _, _, _, rfl⟩ := playback_frame hu
    rfl
  rw [writeOutputs_event, hevent] at hp
  rw [hp] at hu
  rcases playback_cases hu with ⟨-, rfl⟩ | ⟨tb, htb, -⟩ | ⟨tb, htb, -⟩
  · rfl
  · exact absurd htb (by simp [tableOf])
  · exact absurd htb (by simp [tableOf])

/-! ## The count of a tick in a well-formed configuration -/

theorem wf_tStarted_lt_r2Hi {c : Config} (h : c.WF) : c.tStarted < c.r2Hi := by
  obtain ⟨-, -, -, ⟨-, -, hlo, hhi⟩, -⟩ := h
  exact hlo.trans_lt hhi

theorem wf_r2Hi_lt_wordMax {c : Config} (h : c.WF) : c.r2Hi < wordMax := by
  obtain ⟨-, -, -, -, -, hlast, -⟩ := h
  exact Nat.lt_of_le_pred (by decide) hlast

theorem countAfterRewind_of_ne {c : Config} {e : BitVec 3} (h : e ≠ eventCode .button1Pressed)
    (n : Word) : countAfterRewind c e n = n := by
  simp [countAfterRewind, h]

theorem countAfterRewind_of_lt {c : Config} {n : Word} (h : n.toNat < c.r2Hi) (e : BitVec 3) :
    countAfterRewind c e n = n := by
  have hn : ¬ c.r2Hi ≤ n.toNat := Nat.not_le.mpr h
  simp [countAfterRewind, hn]

/-- R161: after the rewind a run's count is inside the schedule. -/
theorem countAfterRewind_lt_r2Hi {c : Config} (hwf : c.WF) (n : Word) :
    (countAfterRewind c (eventCode .button1Pressed) n).toNat < c.r2Hi := by
  by_cases h : n.toNat < c.r2Hi
  · rwa [countAfterRewind_of_lt h]
  · have hstart := wf_tStarted_lt_r2Hi hwf
    have hlast := wf_r2Hi_lt_wordMax hwf
    rw [countAfterRewind, if_pos ⟨rfl, Nat.le_of_not_lt h⟩, satW_toNat_of_le (hstart.trans hlast).le]
    exact hstart

theorem countAfterRewind_idem {c : Config} (hwf : c.WF) (e : BitVec 3) (n : Word) :
    countAfterRewind c e (countAfterRewind c e n) = countAfterRewind c e n := by
  by_cases he : e = eventCode .button1Pressed
  · subst he
    exact countAfterRewind_of_lt (countAfterRewind_lt_r2Hi hwf n) _
  · exact countAfterRewind_of_ne he _

/-- As long as a tick ends no pass, the next one is in the same phase, unless the watch changes the
event. -/
theorem tickPhase_eq_of_count {s t : State} (hwf : s.cfg.WF) (hcfg : t.cfg = s.cfg) {e : BitVec 3}
    (h : t.soundCount = countAfterRewind s.cfg e s.soundCount) : tickPhase t e = tickPhase s e := by
  rw [tickPhase, tickPhase, hcfg, h, countAfterRewind_idem hwf]

/-- R162: the last pass of the schedule is the bell of the second window. -/
theorem phase_last_ringing {c : Config} (hwf : c.WF) {n : Nat} (h : n + 1 = c.r2Hi) :
    phase c (eventCode .button1Pressed) n = .ringing := by
  obtain ⟨-, -, -, ⟨-, -, hstart, hr2⟩, -⟩ := hwf
  have hnot : ¬ n < c.tStarted := by omega
  have hwin : c.r2Lo ≤ n ∧ n < c.r2Hi := by omega
  simp [phase, hnot, hwin]

/-- R163: a stop has a table only below its threshold. -/
theorem lt_tStopped_of_table {c : Config} {n : Nat} {tb : TableId}
    (h : tableOf (phase c (eventCode .button1Released) n) = some tb) : n < c.tStopped := by
  by_contra hn
  simp [phase, hn, tableOf] at h

theorem tableLen_le_longestTable (c : Config) (t : TableId) : tableLen c t ≤ longestTable c := by
  unfold longestTable
  cases t with
  | engine => exact le_max_left _ _
  | bell => exact (le_max_left _ _).trans (le_max_right _ _)
  | whistle => exact (le_max_right _ _).trans (le_max_right _ _)

/-! ## A tick keeps the invariant, part by part -/

section Tick

variable {level : Bool} {s t : State}

/-- A tick enters no event but SensorMissing (R122). -/
theorem event_before_tick (h : tick level s = some t) {e : Event} (he : t.event = eventCode e)
    (hne : e ≠ .sensorMissing) : s.event = eventCode e := by
  rcases tick_event_cases h with hs | ⟨-, hm⟩
  · exact hs.symm.trans he
  · exact absurd (eventCode_injective (he.symm.trans hm)) hne

theorem tick_eventLegal (h : tick level s = some t) (hinv : Inv s) : eventLegal t := by
  rcases tick_event_cases h with he | ⟨-, he⟩
  · rw [eventLegal, he]
    exact hinv.eventLegal
  · rw [eventLegal, he]
    exact eventCode_toNat_le _

theorem tick_rampBounded (h : tick level s = some t) (hwf : s.cfg.WF) (hinv : Inv s) :
    rampBounded t := by
  obtain ⟨-, hramp, -⟩ := hwf
  obtain ⟨-, hcfg, -⟩ := tick_frame h
  have hwatch : rampBounded (sensorWatch level s) := by
    simpa [rampBounded] using hinv.rampBounded
  have hm := motorRamp_rampBounded (by simpa using hramp) hwatch
  rwa [rampBounded, motorRamp_cfg, sensorWatch_cfg, ← tick_rampCount h, ← hcfg] at hm

theorem tick_windowBounded (h : tick level s = some t) (hwf : s.cfg.WF) : windowBounded t := by
  obtain ⟨-, -, -, -, -, -, -, -, hticks, -⟩ := hwf
  obtain ⟨-, hcfg, -⟩ := tick_frame h
  rw [windowBounded, tick_windowCount h, hcfg]
  exact sensorWatch_windowCount_lt level hticks

/-- R123: SensorMissing is entered from a run, which has the sensor line enabled. -/
theorem tick_sensorTracksRun (h : tick level s = some t) (hinv : Inv s) : sensorTracksRun t := by
  obtain ⟨hen, -, -⟩ := tick_frame h
  obtain ⟨hon, hoff⟩ := hinv.sensorTracksRun
  rcases tick_event_cases h with he | ⟨hs, he⟩
  · rw [sensorTracksRun, hen, he]
    exact ⟨hon, hoff⟩
  · rw [sensorTracksRun, hen, he]
    exact ⟨fun _ => hon (Or.inl hs), by simp⟩

theorem tick_fadeBounded (h : tick level s = some t) (hinv : Inv s) : fadeBounded t := by
  cases tick_cursorMove h with
  | rest idx fade count =>
    rw [fadeBounded, fade]
    exact hinv.fadeBounded
  | endPass tb table idx fade delay count => exact fadeBounded_of_zero fade
  | play tb table fits fade count => exact fade

theorem tick_cursorBounded (h : tick level s = some t) (hinv : Inv s) : cursorBounded t := by
  obtain ⟨-, hcfg, -⟩ := tick_frame h
  rw [cursorBounded, hcfg]
  cases tick_cursorMove h with
  | rest idx fade count =>
    rw [idx]
    exact hinv.cursorBounded
  | endPass tb table idx fade delay count => simp [idx]
  | play tb table fits fade count => exact fits.1.trans (tableLen_le_longestTable _ tb)

theorem tick_scheduleBounded (h : tick level s = some t) (hwf : s.cfg.WF) : scheduleBounded t := by
  intro he
  obtain ⟨-, hcfg, -⟩ := tick_frame h
  have hmove := tick_cursorMove h
  have hlt := countAfterRewind_lt_r2Hi hwf s.soundCount
  rw [he] at hmove
  rw [hcfg]
  cases hmove with
  | rest idx fade count => exact (congrArg BitVec.toNat count).trans_le hlt.le
  | endPass tb table idx fade delay count =>
    rw [count, satW_toNat]
    exact satSucc_le_of_lt hlt
  | play tb table fits fade count => exact (congrArg BitVec.toNat count).trans_le hlt.le

/-- R44 (i): the count reaches `R2_HI` only at the end of a bell pass, which loads no pause (R182). -/
theorem tick_scheduleEndFresh (h : tick level s = some t) (hwf : s.cfg.WF) : scheduleEndFresh t := by
  intro he hend
  obtain ⟨-, hcfg, -⟩ := tick_frame h
  have hmove := tick_cursorMove h
  have hlt := countAfterRewind_lt_r2Hi hwf s.soundCount
  rw [he] at hmove
  rw [hcfg] at hend
  cases hmove with
  | rest idx fade count => exact absurd (hend.symm.trans (congrArg BitVec.toNat count)) hlt.ne'
  | endPass tb table idx fade delay count =>
    rw [count, satW_toNat] at hend
    have hlast := satSucc_eq_of_lt hend (wf_r2Hi_lt_wordMax hwf)
    rw [tickPhase, phase_last_ringing hwf hlast] at delay
    exact ⟨idx, fade, delay⟩
  | play tb table fits fade count => exact absurd (hend.symm.trans (congrArg BitVec.toNat count)) hlt.ne'

/-- R163, R183: a stop counts a pass only below its threshold. -/
theorem tick_stopBounded (h : tick level s = some t) (hinv : Inv s) : stopBounded t := by
  intro he
  obtain ⟨-, hcfg, -⟩ := tick_frame h
  have hold := hinv.stopBounded (event_before_tick h he (by decide))
  have hmove := tick_cursorMove h
  rw [he, tickPhase, countAfterRewind_of_ne (by decide)] at hmove
  rw [hcfg]
  cases hmove with
  | rest idx fade count => rwa [count]
  | endPass tb table idx fade delay count =>
    rw [count, satW_toNat]
    exact satSucc_le_of_lt (lt_tStopped_of_table table)
  | play tb table fits fade count => rwa [count]

theorem tick_noneIsStill (h : tick level s = some t) (hinv : Inv s) : noneIsStill t := by
  intro he
  obtain ⟨hduty, -⟩ := hinv.noneIsStill (event_before_tick h he (by decide))
  have hphase : tickPhase s t.event = .none := by
    rw [he]
    exact phase_none _ _
  refine ⟨?_, tick_amp_of_phase_none h hphase⟩
  rw [tick_motorDuty h, motorRamp_of_none ((tick_event h).symm.trans he), sensorWatch_motorDuty, hduty]

/-- R44 (h): a pass ends with the cursor at the start, where it fits every table; until then the phase,
and with it the table, stays. -/
theorem tick_cursorInTable (h : tick level s = some t) (hwf : s.cfg.WF) (hinv : Inv s) :
    cursorInTable t := by
  rw [cursorInTable_iff]
  intro hrun tb htb
  obtain ⟨-, hcfg, -⟩ := tick_frame h
  rw [hcfg]
  cases tick_cursorMove h with
  | rest idx fade count =>
    have he : t.event = s.event := by
      rcases tick_event_cases h with he | ⟨-, he⟩
      · exact he
      · simp [he] at hrun
    rw [tickPhase_eq_of_count hwf hcfg count, he] at htb
    rw [cursorFits, idx, fade]
    rw [he] at hrun
    exact (cursorInTable_iff s).mp hinv.cursorInTable hrun tb htb
  | endPass _ table idx fade delay count => exact cursorFits_of_start idx fade _
  | play tb' table fits fade count =>
    rw [tickPhase_eq_of_count hwf hcfg count, table] at htb
    obtain rfl := Option.some.inj htb
    exact fits

theorem tick_keeps_inv (h : tick level s = some t) (hwf : s.cfg.WF) (hinv : Inv s) : Inv t where
  eventLegal := tick_eventLegal h hinv
  rampBounded := tick_rampBounded h hwf hinv
  windowBounded := tick_windowBounded h hwf
  outputsFresh := tick_outputsFresh h
  sensorTracksRun := tick_sensorTracksRun h hinv
  fadeBounded := tick_fadeBounded h hinv
  cursorBounded := tick_cursorBounded h hinv
  scheduleBounded := tick_scheduleBounded h hwf
  scheduleEndFresh := tick_scheduleEndFresh h hwf
  stopBounded := tick_stopBounded h hinv
  noneIsStill := tick_noneIsStill h hinv
  cursorInTable := tick_cursorInTable h hwf hinv

end Tick

/-! ## A pin change and RESET keep the invariant -/

/-- The parts of the invariant that speak of no event. -/
structure RegistersBounded (s : State) : Prop where
  rampBounded : rampBounded s
  windowBounded : windowBounded s
  outputsFresh : outputsFresh s
  fadeBounded : fadeBounded s
  cursorBounded : cursorBounded s

theorem registersBounded_of_inv {s : State} (h : Inv s) : RegistersBounded s :=
  ⟨h.rampBounded, h.windowBounded, h.outputsFresh, h.fadeBounded, h.cursorBounded⟩

theorem registersBounded_with_event {s : State} (h : RegistersBounded s) (n : Word) (e : BitVec 3) :
    RegistersBounded { s with soundCount := n, event := e } :=
  ⟨h.rampBounded, h.windowBounded, h.outputsFresh, h.fadeBounded, h.cursorBounded⟩

/-- R116: cleared counters are within every bound. -/
theorem registersBounded_of_cleared {s : State} (hclear : clearCounters s = s) (hwf : s.cfg.WF)
    (hout : outputsFresh s) : RegistersBounded s := by
  obtain ⟨-, -, -, -, -, -, -, -, hticks, -⟩ := hwf
  rw [← hclear]
  exact ⟨Nat.zero_le _, hticks, hout, Nat.zero_le _, Nat.zero_le _⟩

/-- The invariant of a state whose counters were just cleared: a start, a stop, or the reset state. -/
theorem inv_of_cleared {s : State} (hclear : clearCounters s = s) (hwf : s.cfg.WF)
    (hevent : eventLegal s) (hout : outputsFresh s) (hsensor : sensorTracksRun s)
    (hnone : noneIsStill s) : Inv s := by
  obtain ⟨hramp, hwindow, -, hfade, hcursor⟩ := registersBounded_of_cleared hclear hwf hout
  refine ⟨hevent, hramp, hwindow, hout, hsensor, hfade, hcursor, ?_, ?_, ?_, hnone, ?_⟩ <;>
    rw [← hclear]
  · exact fun _ => Nat.zero_le _
  · exact fun _ _ => ⟨rfl, rfl, rfl⟩
  · exact fun _ => Nat.zero_le _
  · exact fun _ _ _ => cursorFits_of_start rfl rfl _

/-- The whistle and its release ask for the bounds alone: every other part of the invariant speaks of
another event. -/
theorem inv_of_button2 {s : State} (h : RegistersBounded s)
    (he : s.event = eventCode .button2Pressed ∨ s.event = eventCode .button2Released) : Inv s := by
  have hne : ∀ e, e ≠ .button2Pressed → e ≠ .button2Released → s.event ≠ eventCode e := by
    intro e hpressed hreleased hs
    rw [hs, eventCode_inj, eventCode_inj] at he
    exact he.elim hpressed hreleased
  have hmissing := hne .sensorMissing (by decide) (by decide)
  have hrun := hne .button1Pressed (by decide) (by decide)
  have hstop := hne .button1Released (by decide) (by decide)
  have hnone := hne .none (by decide) (by decide)
  refine ⟨?_, h.rampBounded, h.windowBounded, h.outputsFresh, ⟨?_, ?_⟩, h.fadeBounded,
    h.cursorBounded, fun hs => absurd hs hrun, fun hs => absurd hs hrun, fun hs => absurd hs hstop,
    fun hs => absurd hs hnone, fun hs => absurd hs (not_or.mpr ⟨hrun, hstop⟩)⟩
  · rcases he with he | he <;> rw [eventLegal, he] <;> exact eventCode_toNat_le _
  · exact fun hs => absurd hs (not_or.mpr ⟨hrun, hmissing⟩)
  · exact fun hs => absurd hs (not_or.mpr ⟨hnone, hstop⟩)

/-- R113, R123. -/
theorem start_inv {s : State} (hwf : s.cfg.WF) (hout : outputsFresh s) :
    Inv (setSensorEn (clearCounters { s with event := eventCode .button1Pressed })) :=
  inv_of_cleared rfl hwf (eventCode_toNat_le _) hout
    ⟨fun _ => rfl, fun h => absurd h (by simp)⟩ (fun h => absurd h (by simp))

/-- R114, R123. -/
theorem stop_inv {s : State} (hwf : s.cfg.WF) (hout : outputsFresh s) :
    Inv (clearSensorEn (clearCounters { s with event := eventCode .button1Released })) :=
  inv_of_cleared rfl hwf (eventCode_toNat_le _) hout
    ⟨fun h => absurd h (by simp), fun _ => rfl⟩ (fun h => absurd h (by simp))

/-- R43, R200. -/
theorem resetRegisters_inv {s : State} (hwf : s.cfg.WF) : Inv (resetRegisters s) :=
  inv_of_cleared rfl hwf (eventCode_toNat_le _) ⟨rfl, rfl⟩
    ⟨fun h => absurd h (by simp [resetRegisters]), fun _ => rfl⟩ (fun _ => ⟨rfl, rfl⟩)

theorem pinChange_keeps_inv (f1 h1 f2 h2 : Bool) {s : State} (hwf : s.cfg.WF) (hinv : Inv s) :
    Inv (pinChange f1 h1 f2 h2 s) := by
  have hstart := start_inv hwf hinv.outputsFresh
  have hstop := stop_inv hwf hinv.outputsFresh
  rcases pinChange_cases f1 h1 f2 h2 s with h | ⟨-, -, -, h⟩ | ⟨-, -, -, -, h⟩ | ⟨-, -, -, h⟩ |
    ⟨-, h, hb⟩ <;> rw [h]
  · exact hinv
  · exact hstart
  · exact hstop
  · exact inv_of_button2 (registersBounded_with_event (registersBounded_of_inv hinv) _ _) (Or.inr rfl)
  · have hbutton1 : Inv (button1Step f1 h1 s) := by
      rcases hb with hb | ⟨-, -, hb⟩ | ⟨-, -, -, hb⟩ <;> rw [hb]
      · exact hinv
      · exact hstart
      · exact hstop
    exact inv_of_button2 (registersBounded_with_event (registersBounded_of_inv hbutton1) _ _)
      (Or.inl rfl)

/-! ## The invariant -/

/-- No part of the invariant reads the stimuli still to come (log 2). -/
theorem inv_with_stimuli {s : State} (hinv : Inv s) (rest : List Byte) :
    Inv { s with stimuli := rest } where
  __ := hinv

theorem exec_keeps_inv {i : Instr} {s t : State} (hwf : s.cfg.WF) (hinv : Inv s)
    (h : exec i s = .next t) : Inv t ∧ t.cfg = s.cfg := by
  rcases exec_cases i s with ⟨level, t', -, ht, hx⟩ | ⟨f1, h1, f2, h2, -, hx⟩ | ⟨-, hx⟩ | ⟨-, hx⟩ <;>
    obtain rfl := Host.Outcome.next.inj (hx.symm.trans h)
  · obtain ⟨-, hcfg, -⟩ := tick_frame ht
    exact ⟨tick_keeps_inv ht hwf hinv, hcfg⟩
  · obtain ⟨hcfg, -⟩ := pinChange_frame f1 h1 f2 h2 s
    exact ⟨pinChange_keeps_inv f1 h1 f2 h2 hwf hinv, hcfg⟩
  · exact ⟨resetRegisters_inv hwf, rfl⟩
  · exact ⟨hinv, rfl⟩

/-- Settles O53: a step takes a stimulus word, which the invariant does not read, and performs its
operation. -/
theorem stepKeepsInvariant : Obligations.StepKeepsInvariant := by
  intro s t hwf hinv h
  obtain ⟨w, rest, i, -, -, hx⟩ := step_next h
  obtain ⟨ht, hcfg⟩ := exec_keeps_inv (s := { s with stimuli := rest }) hwf
    (inv_with_stimuli hinv rest) hx
  exact ⟨ht, hcfg ▸ hwf⟩

/-- Settles O54: the reset state has the registers that `RESET` writes. -/
theorem resetHasInvariant : Obligations.ResetHasInvariant :=
  fun c hwf => resetRegisters_inv (s := { State.reset with cfg := c }) hwf

end Sys2Proof.Machine

/-! Proofs about the memory (spec/20_memory.md): what a table read answers (R60, R61), the
registers `PINCHG` writes and reads (R121), that no operation changes the tables, the constants or the
waiting stimuli (R70), and that none reads past a table or faults (R62). -/

namespace Sys2Proof.Machine

/-! ## The table read -/

theorem memRead_eq_getElem {c : Config} {t : TableId} {i : Nat} (h : i < (tableBytes c t).length) :
    memRead c t i = some (tableBytes c t)[i] :=
  List.getElem?_eq_getElem h

theorem memRead_eq_none {c : Config} {t : TableId} {i : Nat} (h : (tableBytes c t).length ≤ i) :
    memRead c t i = none :=
  List.getElem?_eq_none h

/-- Settles O11. -/
theorem tableReadReturnsConfiguredByte : Obligations.TableReadReturnsConfiguredByte :=
  fun _ _ _ => ⟨memRead_eq_getElem, memRead_eq_none⟩

/-! ## The writes of a pin change -/

/-- R121: two states that agree on the registers `PINCHG` reads, and on `cfg`. -/
structure SameInputs (s s' : State) : Prop where
  event : s'.event = s.event
  soundCount : s'.soundCount = s.soundCount
  cfg : s'.cfg = s.cfg

/-- Two runs, from `s` to `t` and from `s'` to `t'`, that each write a register with one value or both
keep it. -/
def WrittenAlike (s s' t t' : State) : Prop :=
  ∀ r : Reg, readReg t' r = readReg t r ∨ (readReg t r = readReg s r ∧ readReg t' r = readReg s' r)

/-- What R121 allows a part of `PINCHG`. -/
structure PinWrites (f : State → State) : Prop where
  frame : ∀ s, (f s).cfg = s.cfg ∧ (f s).stimuli = s.stimuli ∧ (f s).freeCount = s.freeCount
  clears : ∀ s r, r ≠ .event → r ≠ .sensorEn → readReg (f s) r = readReg s r ∨ readReg (f s) r = 0
  alike : ∀ s s', SameInputs s s' → WrittenAlike s s' (f s) (f s')

theorem WrittenAlike.trans {s s' t t' u u' : State} (h : WrittenAlike s s' t t')
    (h' : WrittenAlike t t' u u') : WrittenAlike s s' u u' := by
  intro r
  rcases h' r with hu | ⟨hu, hu'⟩
  · exact Or.inl hu
  · rw [hu, hu']
    exact h r

/-- A register in which two states agree, they agree in after runs that write alike. -/
theorem WrittenAlike.readReg_eq {s s' t t' : State} (h : WrittenAlike s s' t t') {r : Reg}
    (hr : readReg s' r = readReg s r) : readReg t' r = readReg t r := by
  rcases h r with ht | ⟨ht, ht'⟩
  · exact ht
  · rw [ht, ht', hr]

theorem PinWrites.sameInputs {f : State → State} (hf : PinWrites f) {s s' : State}
    (h : SameInputs s s') : SameInputs (f s) (f s') := by
  have halike := hf.alike s s' h
  obtain ⟨hcfg, -⟩ := hf.frame s
  obtain ⟨hcfg', -⟩ := hf.frame s'
  exact ⟨BitVec.eq_of_toNat_eq (halike.readReg_eq (r := .event) (congrArg BitVec.toNat h.event)),
    BitVec.eq_of_toNat_eq
      (halike.readReg_eq (r := .soundCount) (congrArg BitVec.toNat h.soundCount)),
    hcfg'.trans (h.cfg.trans hcfg.symm)⟩

theorem pinWrites_id : PinWrites fun s => s where
  frame _ := ⟨rfl, rfl, rfl⟩
  clears _ _ _ _ := Or.inl rfl
  alike _ _ _ _ := Or.inr ⟨rfl, rfl⟩

theorem PinWrites.comp {f g : State → State} (hg : PinWrites g) (hf : PinWrites f) :
    PinWrites fun s => g (f s) where
  frame s := by
    obtain ⟨hcfg, hstimuli, hfree⟩ := hg.frame (f s)
    rw [hcfg, hstimuli, hfree]
    exact hf.frame s
  clears s r he hen := by
    rcases hg.clears (f s) r he hen with h | h
    · rw [h]
      exact hf.clears s r he hen
    · exact Or.inr h
  alike s s' h := (hf.alike s s' h).trans (hg.alike _ _ (hf.sameInputs h))

/-- A choice between two writes, by a test of nothing but the inputs. -/
theorem PinWrites.ite {p : State → Prop} [DecidablePred p] {f g : State → State}
    (hp : ∀ s s', SameInputs s s' → (p s ↔ p s')) (hf : PinWrites f) (hg : PinWrites g) :
    PinWrites fun s => if p s then f s else g s where
  frame s := by
    split
    · exact hf.frame s
    · exact hg.frame s
  clears s := by
    split
    · exact hf.clears s
    · exact hg.clears s
  alike s s' h := by
    by_cases hs : p s
    · rw [if_pos hs, if_pos ((hp s s' h).mp hs)]
      exact hf.alike s s' h
    · rw [if_neg hs, if_neg (mt (hp s s' h).mpr hs)]
      exact hg.alike s s' h

theorem writeReg_frame (s : State) (r : Reg) (v : Nat) :
    (writeReg s r v).cfg = s.cfg ∧ (writeReg s r v).stimuli = s.stimuli ∧
    (writeReg s r v).freeCount = s.freeCount := by
  cases r <;> exact ⟨rfl, rfl, rfl⟩

/-- R121: only `event` and `sensor_en` are written with anything but zero. -/
theorem pinWrites_writeReg {r : Reg} {v : Nat} (hv : v < 2 ^ regWidth r)
    (hzero : r ≠ .event → r ≠ .sensorEn → v = 0) : PinWrites fun s => writeReg s r v where
  frame s := writeReg_frame s r v
  clears s r' he hen := by
    by_cases hr : r' = r
    · subst hr
      exact Or.inr ((readReg_writeReg_same hv).trans (hzero he hen))
    · exact Or.inl (readReg_writeReg_ne v hr)
  alike s s' _ r' := by
    by_cases hr : r' = r
    · subst hr
      exact Or.inl ((readReg_writeReg_same hv).trans (readReg_writeReg_same hv).symm)
    · exact Or.inr ⟨readReg_writeReg_ne v hr, readReg_writeReg_ne v hr⟩

theorem pinWrites_event (e : Event) : PinWrites fun s => { s with event := eventCode e } := by
  have hcode : BitVec.ofNat 3 (eventCode e).toNat = eventCode e := by simp
  have hwrite := pinWrites_writeReg (r := .event) (eventCode e).isLt (fun h => absurd rfl h)
  simpa only [writeReg, hcode] using hwrite

theorem pinWrites_setSensorEn : PinWrites setSensorEn :=
  pinWrites_writeReg (r := .sensorEn) (v := 1) (by decide) (fun _ h => absurd rfl h)

theorem pinWrites_clearSensorEn : PinWrites clearSensorEn :=
  pinWrites_writeReg (r := .sensorEn) (v := 0) (by decide) (fun _ _ => rfl)

theorem pinWrites_clear (r : Reg) : PinWrites fun s => writeReg s r 0 :=
  pinWrites_writeReg (Nat.two_pow_pos _) (fun _ _ => rfl)

theorem pinWrites_clearAll (rs : List Reg) : PinWrites fun s => rs.foldl (writeReg · · 0) s := by
  induction rs with
  | nil => exact pinWrites_id
  | cons r rs ih => exact ih.comp (pinWrites_clear r)

/-- R116: the counters are cleared one by one. -/
theorem clearCounters_eq_foldl (s : State) :
    clearCounters s =
      [.rampCount, .soundCount, .idx, .fade, .delay, .sensorCount, .windowCount].foldl
        (writeReg · · 0) s := by
  simp [clearCounters, writeReg]

theorem pinWrites_clearCounters : PinWrites clearCounters := by
  rw [funext clearCounters_eq_foldl]
  exact pinWrites_clearAll _

theorem pinWrites_button1Step (fall hold : Bool) : PinWrites (button1Step fall hold) := by
  have hstart := pinWrites_setSensorEn.comp
    (pinWrites_clearCounters.comp (pinWrites_event .button1Pressed))
  have hstop := pinWrites_clearSensorEn.comp
    (pinWrites_clearCounters.comp (pinWrites_event .button1Released))
  refine .ite (fun _ _ _ => Iff.rfl) (.ite (fun s s' h => ?_) hstart
    (.ite (fun s s' h => ?_) hstop pinWrites_id)) pinWrites_id
  · rw [h.event]
  · rw [h.cfg, h.soundCount]

theorem pinWrites_button2Step (fall hold : Bool) : PinWrites (button2Step fall hold) :=
  .ite (fun _ _ _ => Iff.rfl)
    ((pinWrites_event .button2Pressed).comp (pinWrites_clear .soundCount)) pinWrites_id

theorem pinWrites_releaseStep (f1 f2 : Bool) : PinWrites (releaseStep f1 f2) := by
  refine .ite (fun s s' h => ?_) (pinWrites_event .button2Released) pinWrites_id
  rw [h.event]

theorem pinWrites_pinChange (f1 h1 f2 h2 : Bool) : PinWrites (pinChange f1 h1 f2 h2) :=
  (pinWrites_releaseStep f1 f2).comp ((pinWrites_button2Step f2 h2).comp (pinWrites_button1Step f1 h1))

/-- R121: `PINCHG` never writes None or SensorMissing. -/
theorem pinChange_event_of_ne {f1 h1 f2 h2 : Bool} {s : State}
    (hne : (pinChange f1 h1 f2 h2 s).event ≠ s.event) :
    (pinChange f1 h1 f2 h2 s).event ≠ eventCode .none ∧
    (pinChange f1 h1 f2 h2 s).event ≠ eventCode .sensorMissing := by
  rcases pinChange_event_cases f1 h1 f2 h2 s with he | ⟨-, he⟩ | ⟨-, -, -, he⟩ | ⟨-, he⟩ | ⟨-, -, he⟩
  · exact absurd he hne
  all_goals simp [he]

/-- Settles O25: the three steps of `PINCHG` are single register writes, chosen by tests of `event`,
`sound_count` and `cfg` alone. -/
theorem pinchgWritesAndReadsOnlyItsOwn : Obligations.PinchgWritesAndReadsOnlyItsOwn := by
  intro f1 h1 f2 h2 s
  have hpin := pinWrites_pinChange f1 h1 f2 h2
  obtain ⟨hcfg, hstimuli, hfree⟩ := hpin.frame s
  obtain ⟨-, hduty, hamp, hmotor, haudio⟩ := pinChange_frame f1 h1 f2 h2 s
  refine ⟨_, rfl, hduty, hamp, hmotor, haudio, hcfg, hstimuli, hfree, pinChange_event_of_ne,
    fun r hr => ?_, fun s' he hn hc => ⟨_, rfl, hpin.alike s s' ⟨he, hn, hc⟩⟩⟩
  exact hpin.clears s r (ne_of_mem_of_not_mem hr (by decide)) (ne_of_mem_of_not_mem hr (by decide))

/-! ## What every operation keeps -/

theorem exec_frame (i : Instr) (s : State) :
    ∃ t, exec i s = .next t ∧ t.cfg = s.cfg ∧ t.stimuli = s.stimuli := by
  rcases exec_cases i s with ⟨level, t, -, ht, hx⟩ | ⟨f1, h1, f2, h2, -, hx⟩ | ⟨-, hx⟩ | ⟨-, hx⟩ <;>
    refine ⟨_, hx, ?_⟩
  · obtain ⟨-, hkept⟩ := tick_frame ht
    exact hkept
  · obtain ⟨hcfg, hstimuli, -⟩ := (pinWrites_pinChange f1 h1 f2 h2).frame s
    exact ⟨hcfg, hstimuli⟩
  · exact ⟨resetRegisters_cfg s, resetRegisters_stimuli s⟩
  · exact ⟨rfl, rfl⟩

/-- Settles O12: the tables are fields of `cfg` (R60). -/
theorem operationsKeepTablesAndConfig : Obligations.OperationsKeepTablesAndConfig := by
  intro i s
  obtain ⟨t, hx, hcfg, hstimuli⟩ := exec_frame i s
  exact ⟨t, hx, hcfg, hstimuli, fun tb j => by rw [hcfg]⟩

/-! ## No fault -/

theorem exists_exec_next (i : Instr) (s : State) : ∃ t, exec i s = .next t := by
  obtain ⟨t, ht, -⟩ := exec_frame i s
  exact ⟨t, ht⟩

/-- A step performs an operation, which answers a next state, or is refused by `fetch`. -/
theorem step_ne_fault (s : State) (r : Fault) : step s ≠ .fault r := by
  unfold step
  split
  · rename_i i s' _
    obtain ⟨t, ht⟩ := exists_exec_next i s'
    simp [ht]
  · simp

/-- Settles O10: every branch of the engine reads below the length it has just tested. -/
theorem noReadBeyondTableAndNoFault : Obligations.NoReadBeyondTableAndNoFault := by
  refine ⟨fun p s => ?_, exists_exec_next, step_ne_fault⟩
  obtain ⟨u, hu⟩ := exists_playback p s
  simp [hu]

end Sys2Proof.Machine

/-! Proofs about the encodings (spec/30_encoding.md): the map of the 256 stimulus words (R84 to R90), the
pseudo-operations as spellings of `PINCHG` (R94), the text of a program (R93), and the patterns the
block ignores: a hold bit without its fall bit and the event codes 6 and 7 (R91). -/

namespace Sys2Proof.Machine

/-! ## The words of the operations -/

theorem encodeWord_idle_toNat : (encodeWord .idle).toNat = 0x00 := rfl

theorem encodeWord_tick_toNat (s : Bool) : (encodeWord (.tick s)).toNat = 0x40 + s.toNat := by
  cases s <;> rfl

theorem encodeWord_pinchg_toNat (f1 h1 f2 h2 : Bool) : (encodeWord (.pinchg f1 h1 f2 h2)).toNat =
    0x80 + f1.toNat + 2 * h1.toNat + 4 * f2.toNat + 8 * h2.toNat := by
  cases f1 <;> cases h1 <;> cases f2 <;> cases h2 <;> rfl

theorem encodeWord_reset_toNat : (encodeWord .reset).toNat = 0xC0 := rfl

/-- Settles O5. -/
theorem wordOfEachOperation : Obligations.WordOfEachOperation :=
  ⟨encodeWord_idle_toNat, encodeWord_tick_toNat, encodeWord_pinchg_toNat, encodeWord_reset_toNat⟩

theorem encodeWord_expand (i : Instr) : encodeWord i.expand = encodeWord i := by
  cases i <;> rfl

theorem expand_wellFormed (i : Instr) : i.expand.wellFormed = true := by
  cases i <;> rfl

theorem expand_of_wellFormed {i : Instr} (h : i.wellFormed = true) : i.expand = i := by
  cases i with
  | idle | tick | pinchg | reset => rfl
  | press1 | bounce1 | press2 | bounce2 | press12 | other | release2 => cases h

/-! ## The map of the stimulus words -/

theorem field_toNat (w : Byte) (lo n : Nat) :
    (w.extractLsb' lo n).toNat = w.toNat / 2 ^ lo % 2 ^ n := by
  rw [BitVec.extractLsb'_toNat, Nat.shiftRight_eq_div_pow]

theorem field_eq_zero_iff (w : Byte) (lo n : Nat) :
    w.extractLsb' lo n = 0#n ↔ w.toNat / 2 ^ lo % 2 ^ n = 0 := by
  rw [← BitVec.toNat_inj, field_toNat, BitVec.toNat_ofNat, Nat.zero_mod]

theorem bit_toNat (w : Byte) (k : Nat) : (w.getLsbD k).toNat = w.toNat / 2 ^ k % 2 :=
  Nat.toNat_testBit w.toNat k

theorem getLsbD_eq_of_div {w : Byte} {k : Nat} {b : Bool} (h : w.toNat / 2 ^ k % 2 = b.toNat) :
    w.getLsbD k = b := by
  rw [← bit_toNat] at h
  revert h
  cases w.getLsbD k <;> cases b <;> decide

/-- Bits 7:6 of a word, the opcode. -/
theorem opcode_eq {w : Byte} {op : Nat} (hlo : 64 * op ≤ w.toNat) (hhi : w.toNat < 64 * (op + 1)) :
    (w.extractLsb' 6 2).toNat = op := by
  have := w.isLt
  rw [field_toNat]
  omega

section Map

variable {w : Byte}

theorem decodeByte_of_lt_0x40 (hhi : w.toNat < 0x40) :
    decodeByte w = if w.toNat = 0x00 then .ok .idle else .error .reservedIdle := by
  simp only [decodeByte, opcode_eq (op := 0) (Nat.zero_le _) hhi]
  exact if_congr ((field_eq_zero_iff w 0 6).trans (by omega)) rfl rfl

theorem decodeByte_of_lt_0x80 (hlo : 0x40 ≤ w.toNat) (hhi : w.toNat < 0x80) :
    decodeByte w =
      if w.toNat ≤ 0x41 then .ok (.tick (w.getLsbD 0)) else .error .reservedTick := by
  simp only [decodeByte, opcode_eq (op := 1) hlo hhi]
  exact if_congr ((field_eq_zero_iff w 1 5).trans (by omega)) rfl rfl

theorem decodeByte_of_lt_0xC0 (hlo : 0x80 ≤ w.toNat) (hhi : w.toNat < 0xC0) :
    decodeByte w =
      if w.toNat ≤ 0x8F then .ok (.pinchg (w.getLsbD 0) (w.getLsbD 1) (w.getLsbD 2) (w.getLsbD 3))
      else .error .reservedPinchg := by
  simp only [decodeByte, opcode_eq (op := 2) hlo hhi]
  exact if_congr ((field_eq_zero_iff w 4 2).trans (by omega)) rfl rfl

theorem decodeByte_of_le_0xFF (hlo : 0xC0 ≤ w.toNat) :
    decodeByte w = if w.toNat = 0xC0 then .ok .reset else .error .reservedReset := by
  have hhi := w.isLt
  simp only [decodeByte, opcode_eq (op := 3) hlo hhi]
  exact if_congr ((field_eq_zero_iff w 0 6).trans (by omega)) rfl rfl

end Map

/-- The four ranges of R90, by their names. -/
def ReservedAs : DecodeError → Byte → Prop
  | .reservedIdle, w => 0x01 ≤ w.toNat ∧ w.toNat ≤ 0x3F
  | .reservedTick, w => 0x42 ≤ w.toNat ∧ w.toNat ≤ 0x7F
  | .reservedPinchg, w => 0x90 ≤ w.toNat ∧ w.toNat ≤ 0xBF
  | .reservedReset, w => 0xC1 ≤ w.toNat
  | .noWord, _ => False

/-- All that a word can be: the word of the operation it spells, or reserved and refused by its name. -/
theorem decodeByte_cases (w : Byte) :
    (∃ i : Instr, i.wellFormed = true ∧ encodeWord i = w ∧ decodeByte w = .ok i) ∨
    ∃ e, ReservedAs e w ∧ decodeByte w = .error e := by
  have hbit := bit_toNat w
  by_cases h40 : w.toNat < 0x40
  · rw [decodeByte_of_lt_0x40 h40]
    split
    · refine Or.inl ⟨.idle, rfl, BitVec.eq_of_toNat_eq ?_, rfl⟩
      rw [encodeWord_idle_toNat]
      omega
    · exact Or.inr ⟨.reservedIdle, ⟨by omega, by omega⟩, rfl⟩
  by_cases h80 : w.toNat < 0x80
  · rw [decodeByte_of_lt_0x80 (by omega) h80]
    split
    · refine Or.inl ⟨_, rfl, BitVec.eq_of_toNat_eq ?_, rfl⟩
      rw [encodeWord_tick_toNat, hbit]
      omega
    · exact Or.inr ⟨.reservedTick, ⟨by omega, by omega⟩, rfl⟩
  by_cases hC0 : w.toNat < 0xC0
  · rw [decodeByte_of_lt_0xC0 (by omega) hC0]
    split
    · refine Or.inl ⟨_, rfl, BitVec.eq_of_toNat_eq ?_, rfl⟩
      rw [encodeWord_pinchg_toNat, hbit, hbit, hbit, hbit]
      omega
    · exact Or.inr ⟨.reservedPinchg, ⟨by omega, by omega⟩, rfl⟩
  · rw [decodeByte_of_le_0xFF (by omega)]
    split
    · refine Or.inl ⟨.reset, rfl, BitVec.eq_of_toNat_eq ?_, rfl⟩
      rw [encodeWord_reset_toNat]
      omega
    · exact Or.inr ⟨.reservedReset, by simp only [ReservedAs]; omega, rfl⟩

theorem decodeByte_eq_error_iff (w : Byte) (e : DecodeError) :
    decodeByte w = .error e ↔ ReservedAs e w := by
  constructor
  · intro h
    rcases decodeByte_cases w with ⟨i, -, -, hok⟩ | ⟨e', hres, herr⟩
    · cases hok.symm.trans h
    · cases herr.symm.trans h
      exact hres
  · intro h
    cases e with
    | reservedIdle =>
      obtain ⟨hlo, hhi⟩ := h
      rw [decodeByte_of_lt_0x40 (by omega), if_neg (by omega)]
    | reservedTick =>
      obtain ⟨hlo, hhi⟩ := h
      rw [decodeByte_of_lt_0x80 (by omega) (by omega), if_neg (by omega)]
    | reservedPinchg =>
      obtain ⟨hlo, hhi⟩ := h
      rw [decodeByte_of_lt_0xC0 (by omega) (by omega), if_neg (by omega)]
    | reservedReset =>
      have hlo : 0xC1 ≤ w.toNat := h
      rw [decodeByte_of_le_0xFF (by omega), if_neg (by omega)]
    | noWord => exact h.elim

/-! ## The round trips -/

theorem encodeWord_tick_bit (s : Bool) : (encodeWord (.tick s)).getLsbD 0 = s := by
  have hs := s.toNat_le
  refine getLsbD_eq_of_div ?_
  rw [encodeWord_tick_toNat]
  omega

/-- R87: the four operand bits of `PINCHG`. -/
theorem encodeWord_pinchg_bits (f1 h1 f2 h2 : Bool) :
    (encodeWord (.pinchg f1 h1 f2 h2)).getLsbD 0 = f1 ∧
    (encodeWord (.pinchg f1 h1 f2 h2)).getLsbD 1 = h1 ∧
    (encodeWord (.pinchg f1 h1 f2 h2)).getLsbD 2 = f2 ∧
    (encodeWord (.pinchg f1 h1 f2 h2)).getLsbD 3 = h2 := by
  have hval := encodeWord_pinchg_toNat f1 h1 f2 h2
  have hf1 := f1.toNat_le
  have hh1 := h1.toNat_le
  have hf2 := f2.toNat_le
  have hh2 := h2.toNat_le
  exact ⟨getLsbD_eq_of_div (by omega), getLsbD_eq_of_div (by omega), getLsbD_eq_of_div (by omega),
    getLsbD_eq_of_div (by omega)⟩

/-- The operation of a word is told by its range, the operands are its bits. -/
theorem decodeByte_encodeWord_of_wellFormed {i : Instr} (h : i.wellFormed = true) :
    decodeByte (encodeWord i) = .ok i := by
  cases i with
  | idle => rfl
  | tick s =>
    have hval := encodeWord_tick_toNat s
    have hs := s.toNat_le
    rw [decodeByte_of_lt_0x80 (by omega) (by omega), if_pos (by omega), encodeWord_tick_bit]
  | pinchg f1 h1 f2 h2 =>
    have hval := encodeWord_pinchg_toNat f1 h1 f2 h2
    have hf1 := f1.toNat_le
    have hh1 := h1.toNat_le
    have hf2 := f2.toNat_le
    have hh2 := h2.toNat_le
    obtain ⟨b0, b1, b2, b3⟩ := encodeWord_pinchg_bits f1 h1 f2 h2
    rw [decodeByte_of_lt_0xC0 (by omega) (by omega), if_pos (by omega), b0, b1, b2, b3]
  | reset => rfl
  | press1 | bounce1 | press2 | bounce2 | press12 | other | release2 => cases h

theorem decodeByte_encodeWord (i : Instr) : decodeByte (encodeWord i) = .ok i.expand := by
  rw [← encodeWord_expand, decodeByte_encodeWord_of_wellFormed (expand_wellFormed i)]

/-- Settles O1: the word of an instruction is that of the operation it stands for. -/
theorem decodeInvertsEncode : Obligations.DecodeInvertsEncode := fun i rest =>
  ⟨decode_cons_of_decodeByte (decodeByte_encodeWord i) rest, expand_of_wellFormed, expand_wellFormed i⟩

/-- Settles O2: a word that is not refused is the word of an operation. -/
theorem encodeInvertsDecode : Obligations.EncodeInvertsDecode := by
  intro w i h
  rcases decodeByte_cases w with ⟨j, hwf, hword, hok⟩ | ⟨e, -, herr⟩
  · cases hok.symm.trans h
    exact ⟨hword, hwf⟩
  · cases herr.symm.trans h

/-- Settles O4. -/
theorem writtenWordsDecode : Obligations.WrittenWordsDecode :=
  ⟨decodeByte_encodeWord .idle, decodeByte_encodeWord (.tick false), decodeByte_encodeWord (.tick true),
    decodeByte_encodeWord (.pinchg true false false false),
    decodeByte_encodeWord (.pinchg false true false false),
    decodeByte_encodeWord (.pinchg false false true false),
    decodeByte_encodeWord (.pinchg false false false true), decodeByte_encodeWord .reset⟩

/-! ## The reserved words -/

/-- R90: a reserved word gives no step. -/
theorem step_of_decodeByte_error {s : State} {w : Byte} {rest : List Byte} {e : DecodeError}
    (hs : s.stimuli = w :: rest) (hd : decodeByte w = .error e) :
    step s = .refused (.reservedWord e) := by
  simp only [step, fetch, hs, decode, hd]

/-- Settles O3: a word is refused exactly in its range of R90. -/
theorem reservedWordsAreRefused : Obligations.ReservedWordsAreRefused := fun w =>
  ⟨decodeByte_eq_error_iff w .reservedIdle, decodeByte_eq_error_iff w .reservedTick,
    decodeByte_eq_error_iff w .reservedPinchg, decodeByte_eq_error_iff w .reservedReset,
    (decodeByte_eq_error_iff w .noWord).mp, fun _ _ _ hd hs => step_of_decodeByte_error hs hd⟩

/-! ## The pseudo-operations -/

theorem exec_expand (i : Instr) (s : State) : exec i s = exec i.expand s := by
  cases i <;> rfl

/-- R93: the words of a repeated tick. -/
theorem assemble_ticks (n : Nat) (l : Bool) :
    assemble [.ticks n l] = List.replicate n (encodeWord (.tick l)) := by
  simp [assemble, assembleLine]

/-- Settles O6. -/
theorem pseudoOperationExpansions : Obligations.PseudoOperationExpansions := by
  refine ⟨⟨rfl, rfl⟩, ⟨rfl, rfl⟩, ⟨rfl, rfl⟩, ⟨rfl, rfl⟩, ⟨rfl, rfl⟩, ⟨rfl, rfl⟩, ⟨rfl, rfl⟩,
    exec_expand, fun n l => ⟨rfl, ?_⟩⟩
  have hword : encodeWord (.tick l) = 0x40#8 ||| (BitVec.ofBool l).setWidth 8 := by
    cases l <;> rfl
  rw [assemble_ticks, hword]

/-- R112: with a Button1 press alone, `PINCHG` is its Button1 step. -/
theorem pinChange_of_button1 {f1 h1 f2 h2 : Bool} (hp1 : pressed f1 h1 = true)
    (hp2 : pressed f2 h2 = false) (s : State) :
    pinChange f1 h1 f2 h2 s = button1Step f1 h1 s := by
  obtain ⟨rfl, -⟩ := pressed_iff.mp hp1
  rw [pinChange, button2Step_unpressed hp2, releaseStep_fall1]

/-- R112, R117: a Button2 press has the last word on `sound_count` and `event`. -/
theorem pinChange_of_button2 {f1 h1 f2 h2 : Bool} (hp2 : pressed f2 h2 = true) (s : State) :
    pinChange f1 h1 f2 h2 s =
      { button1Step f1 h1 s with soundCount := 0#16, event := eventCode .button2Pressed } := by
  obtain ⟨rfl, -⟩ := pressed_iff.mp hp2
  rw [pinChange, button2Step_pressed hp2, releaseStep_fall2]

/-- R112: without a press, `PINCHG` is its release step. -/
theorem pinChange_of_unpressed {f1 h1 f2 h2 : Bool} (hp1 : pressed f1 h1 = false)
    (hp2 : pressed f2 h2 = false) (s : State) :
    pinChange f1 h1 f2 h2 s = releaseStep f1 f2 s := by
  rw [pinChange, button1Step_unpressed hp1, button2Step_unpressed hp2]

/-- R113 to R115: the three outcomes of a Button1 press. -/
theorem pinChange_press1 (s : State) :
    pinChange true true false false s =
      if s.event ≠ eventCode .button1Pressed then
        setSensorEn (clearCounters { s with event := eventCode .button1Pressed })
      else if s.cfg.tStopped ≤ s.soundCount.toNat then
        clearSensorEn (clearCounters { s with event := eventCode .button1Released })
      else s := by
  rw [pinChange_of_button1 rfl rfl]
  split
  · exact button1Step_start rfl ‹_›
  · have he := not_ne_iff.mp ‹_›
    split
    · exact button1Step_stop rfl he ‹_›
    · exact button1Step_early he (Nat.lt_of_not_le ‹_›)

/-- R112 (corner case): both presses end in Button2Pressed, after a start, a stop or an early press. -/
theorem pinChange_press12 (s : State) :
    pinChange true true true true s =
      if s.event = eventCode .button1Pressed ∧ s.soundCount.toNat < s.cfg.tStopped then
        { s with soundCount := 0#16, event := eventCode .button2Pressed }
      else
        { clearCounters s with
          event := eventCode .button2Pressed
          sensorEn := decide (s.event ≠ eventCode .button1Pressed) } := by
  rw [pinChange_of_button2 rfl]
  split
  · rename_i hearly
    obtain ⟨he, hlt⟩ := hearly
    rw [button1Step_early he hlt]
  · rename_i hnot
    by_cases he : s.event = eventCode .button1Pressed
    · have hguard := Nat.le_of_not_lt fun hlt => hnot ⟨he, hlt⟩
      rw [button1Step_stop rfl he hguard, decide_eq_false (not_not_intro he)]
      rfl
    · rw [button1Step_start rfl he, decide_eq_true he]
      rfl

/-- R118, R120: an invocation without a falling edge. -/
theorem pinChange_other (s : State) :
    pinChange false false false false s =
      if s.event = eventCode .button2Pressed then { s with event := eventCode .button2Released }
      else s := by
  rw [pinChange_of_unpressed rfl rfl]
  split
  · exact releaseStep_fires ‹_›
  · exact releaseStep_other ‹_› _ _

/-- Settles O24: each result is that of `PINCHG` with the operands of the expansion. -/
theorem pseudoOperationResults : Obligations.PseudoOperationResults := by
  intro s
  have hbounce1 : pinChange true false false false s = s := by
    rw [pinChange_of_unpressed rfl rfl, releaseStep_fall1]
  have hbounce2 : pinChange false false true false s = s := by
    rw [pinChange_of_unpressed rfl rfl, releaseStep_fall2]
  have hpress2 : pinChange false false true true s =
      { s with soundCount := 0#16, event := eventCode .button2Pressed } := by
    rw [pinChange_of_button2 rfl, button1Step_unpressed rfl]
  exact ⟨congrArg Host.Outcome.next (pinChange_press1 s), congrArg Host.Outcome.next hbounce1,
    congrArg Host.Outcome.next hbounce2, congrArg Host.Outcome.next hpress2,
    congrArg Host.Outcome.next (pinChange_press12 s), congrArg Host.Outcome.next (pinChange_other s),
    congrArg Host.Outcome.next (pinChange_other s)⟩

/-! ## The words of a line of text -/

/-- A character that is a part of a word: neither a separator nor the start of a comment. -/
def isWordChar (c : Char) : Bool := !isSeparator c && c != ';'

theorem isWordChar_iff {c : Char} : isWordChar c = true ↔ isSeparator c = false ∧ c ≠ ';' := by
  simp [isWordChar]

theorem ne_semicolon_of_isSeparator {c : Char} (h : isSeparator c = true) : c ≠ ';' := by
  rintro rfl
  exact absurd h (by decide)

/-- Word characters are collected into the word being read. -/
theorem wordsFrom_append {w : List Char} (hw : w.all isWordChar = true) (cur rest : List Char) :
    wordsFrom cur (w ++ rest) = wordsFrom (w.reverse ++ cur) rest := by
  induction w generalizing cur with
  | nil => rfl
  | cons c w ih =>
    rw [List.all_cons, Bool.and_eq_true] at hw
    obtain ⟨hc, hw⟩ := hw
    obtain ⟨hsep, -⟩ := isWordChar_iff.mp hc
    simp [wordsFrom, hsep, ih hw]

theorem lineWords_append {w : List Char} (hw : w.all isWordChar = true) (rest : List Char) :
    lineWords (w ++ rest) = wordsFrom w.reverse (rest.takeWhile (· != ';')) := by
  have hcomment : ∀ c ∈ w, (c != ';') = true := fun c hc =>
    bne_iff_ne.mpr (isWordChar_iff.mp (List.all_eq_true.mp hw c hc)).2
  rw [lineWords, List.takeWhile_append_of_pos hcomment, wordsFrom_append hw, List.append_nil]

/-- A line of one word. -/
theorem lineWords_word {w : List Char} (hw : w.all isWordChar = true) (hne : w ≠ []) :
    lineWords w = [w] := by
  have h := lineWords_append hw []
  rw [List.append_nil] at h
  simp [h, wordsFrom, hne]

/-- A word ends at a separator. -/
theorem lineWords_word_separator {w : List Char} (hw : w.all isWordChar = true) (hne : w ≠ [])
    {c : Char} (hc : isSeparator c = true) (rest : List Char) :
    lineWords (w ++ c :: rest) = w :: lineWords rest := by
  have hcomment := ne_semicolon_of_isSeparator hc
  rw [lineWords_append hw]
  simp [lineWords, wordsFrom, hne, hc, hcomment]

/-- A separator before a word is skipped. -/
theorem lineWords_separator {c : Char} (hc : isSeparator c = true) (rest : List Char) :
    lineWords (c :: rest) = lineWords rest := by
  have hcomment := ne_semicolon_of_isSeparator hc
  simp [lineWords, wordsFrom, hc, hcomment]

/-! ## The operands -/

theorem parseBit_showBit (b : Bool) : parseBit (showBit b) = some b := by
  cases b <;> rfl

theorem showBit_all_isWordChar (b : Bool) : (showBit b).all isWordChar = true := by
  cases b <;> rfl

theorem showBit_ne_nil (b : Bool) : showBit b ≠ [] := List.cons_ne_nil _ _

theorem digitOf_of_isDigit {c : Char} (h : c.isDigit = true) : digitOf c = some (c.toNat - 48) :=
  if_pos (Char.isDigit_iff_toNat.mp h)

theorem isWordChar_of_isDigit {c : Char} (h : c.isDigit = true) : isWordChar c = true := by
  refine isWordChar_iff.mpr ⟨?_, ?_⟩
  · rw [← Bool.not_eq_true]
    intro hsep
    simp only [isSeparator, Bool.or_eq_true, beq_iff_eq] at hsep
    rcases hsep with ((rfl | rfl) | rfl) | rfl <;> exact absurd h (by decide)
  · rintro rfl
    exact absurd h (by decide)

theorem parseDigits_of_isDigit {cs : List Char} (h : ∀ c ∈ cs, c.isDigit = true) (acc : Nat) :
    parseDigits acc cs = some (Nat.ofDigitChars 10 cs acc) := by
  induction cs generalizing acc with
  | nil => rfl
  | cons c cs ih =>
    obtain ⟨hc, hcs⟩ := List.forall_mem_cons.mp h
    rw [parseDigits, digitOf_of_isDigit hc, Option.bind_some, ih hcs, Nat.ofDigitChars_cons]
    rfl

theorem isDigit_of_mem_decimal (n : Nat) : ∀ c ∈ Nat.toDigits 10 n, c.isDigit = true :=
  fun _ hc => Nat.isDigit_of_mem_toDigits (by decide) (by decide) hc

theorem decimal_all_isWordChar (n : Nat) : (Nat.toDigits 10 n).all isWordChar = true :=
  List.all_eq_true.mpr fun c hc => isWordChar_of_isDigit (isDigit_of_mem_decimal n c hc)

theorem parseNat_toDigits (n : Nat) : parseNat (Nat.toDigits 10 n) = some n := by
  have hparse : parseNat (Nat.toDigits 10 n) = parseDigits 0 (Nat.toDigits 10 n) := by
    unfold parseNat
    split
    · exact absurd ‹_› Nat.toDigits_ne_nil
    · rfl
  rw [hparse, parseDigits_of_isDigit (isDigit_of_mem_decimal n), Nat.ofDigitChars_ten_toDigits]

/-! ## The lines -/

/-- The words of a shown line (R93, R94). -/
def shownWords : Line → List (List Char)
  | .op (.tick s) => [mnemonicTick, showBit s]
  | .op (.pinchg f1 h1 f2 h2) => [mnemonicPinchg, showBit f1, showBit h1, showBit f2, showBit h2]
  | .ticks n s => [mnemonicTicks, Nat.toDigits 10 n, showBit s]
  | l => [showLine l]

theorem lineWords_showBit (b : Bool) : lineWords (showBit b) = [showBit b] :=
  lineWords_word (showBit_all_isWordChar b) (showBit_ne_nil b)

theorem lineWords_showBit_comma (b : Bool) (rest : List Char) :
    lineWords (showBit b ++ ',' :: rest) = showBit b :: lineWords rest :=
  lineWords_word_separator (showBit_all_isWordChar b) (showBit_ne_nil b) (by decide) rest

theorem lineWords_showLine (l : Line) : lineWords (showLine l) = shownWords l := by
  cases l with
  | op i =>
    cases i with
    | tick s =>
      have hm := lineWords_word_separator (w := mnemonicTick) (c := ' ') rfl (List.cons_ne_nil _ _) rfl
      simp [showLine, shownWords, hm, lineWords_showBit]
    | pinchg f1 h1 f2 h2 =>
      have hm := lineWords_word_separator (w := mnemonicPinchg) (c := ' ') rfl (List.cons_ne_nil _ _) rfl
      simp [showLine, shownWords, hm, lineWords_showBit_comma, lineWords_showBit]
    | idle | reset | press1 | bounce1 | press2 | bounce2 | press12 | other | release2 =>
      exact lineWords_word rfl (List.cons_ne_nil _ _)
  | ticks n s =>
    have hm := lineWords_word_separator (w := mnemonicTicks) (c := ' ') rfl (List.cons_ne_nil _ _) rfl
    have hn := lineWords_word_separator (c := ',') (decimal_all_isWordChar n) Nat.toDigits_ne_nil
      (by decide)
    have hspace := lineWords_separator (c := ' ') (by decide) (showBit s)
    simp [showLine, shownWords, hm, hn, hspace, lineWords_showBit]

theorem parseWords_shownWords (l : Line) : parseWords (shownWords l) = some l := by
  cases l with
  | op i =>
    cases i with
    | tick s => simp [shownWords, parseWords, parseBit_showBit]
    | pinchg f1 h1 f2 h2 => simp [shownWords, parseWords, parseBit_showBit]
    | idle | reset | press1 | bounce1 | press2 | bounce2 | press12 | other | release2 => rfl
  | ticks n s => simp [shownWords, parseWords, parseNat_toDigits, parseBit_showBit]

theorem shownWords_ne_nil (l : Line) : shownWords l ≠ [] := by
  intro h
  have hparse := parseWords_shownWords l
  rw [h] at hparse
  cases hparse

theorem parseLines_showLine_cons (l : Line) (texts : List (List Char)) :
    parseLines (showLine l :: texts) = (parseLines texts).map fun p => l :: p := by
  simp [parseLines, lineWords_showLine, shownWords_ne_nil, parseWords_shownWords]

/-- Settles O7, by induction on the lines of the program. -/
theorem shownProgramParsesBack : Obligations.ShownProgramParsesBack := by
  intro p
  induction p with
  | nil => rfl
  | cons l p ih => rw [List.map_cons, parseLines_showLine_cons, ih, Option.map_some]

/-! ## The ignored patterns -/

/-- R89: the operands count through the debounced presses and the falling edges alone. -/
theorem pinChange_congr {f1 h1 h1' f2 h2 h2' : Bool} (hp1 : pressed f1 h1' = pressed f1 h1)
    (hp2 : pressed f2 h2' = pressed f2 h2) (s : State) :
    pinChange f1 h1' f2 h2' s = pinChange f1 h1 f2 h2 s := by
  simp only [pinChange, button1Step, button2Step, hp1, hp2]

theorem pressed_and_hold (fall hold : Bool) : pressed fall (fall && hold) = pressed fall hold :=
  Bool.and_self_left fall hold

theorem canonical_and_hold (f1 h1 f2 h2 : Bool) :
    Instr.canonical (.pinchg f1 (f1 && h1) f2 (f2 && h2)) = true := by
  cases f1 <;> cases f2 <;> simp [Instr.canonical]

/-- Settles O26: the hold bit counts only under its fall bit. -/
theorem holdWithoutFallIgnored : Obligations.HoldWithoutFallIgnored := fun f1 h1 f2 h2 s =>
  ⟨congrArg Host.Outcome.next
    (pinChange_congr (pressed_and_hold f1 h1) (pressed_and_hold f2 h2) s).symm,
    canonical_and_hold f1 h1 f2 h2⟩

theorem event_reserved_iff (c : BitVec 3) : 5 < c.toNat ↔ c.toNat = 6 ∨ c.toNat = 7 := by
  have := c.isLt
  omega

theorem exec_event_legal_or_kept {i : Instr} {s t : State} (h : exec i s = .next t) :
    t.event.toNat ≤ 5 ∨ t.event = s.event := by
  rcases exec_cases i s with ⟨level, u, -, hu, hx⟩ | ⟨f1, h1, f2, h2, -, hx⟩ | ⟨-, hx⟩ | ⟨-, hx⟩ <;>
    cases h.symm.trans hx
  · rcases tick_event_cases hu with he | ⟨-, he⟩
    · exact Or.inr he
    · exact Or.inl (he ▸ eventCode_toNat_le _)
  · rcases pinChange_event_cases f1 h1 f2 h2 s with he | ⟨-, he⟩ | ⟨-, -, -, he⟩ | ⟨-, he⟩ | ⟨-, -, he⟩
    · exact Or.inr he
    all_goals exact Or.inl (he ▸ eventCode_toNat_le _)
  · exact Or.inl (eventCode_toNat_le .none)
  · exact Or.inr rfl

/-- R91 (b), R152. -/
theorem motorRamp_of_reserved {s : State} (h : s.event.toNat = 6 ∨ s.event.toNat = 7) :
    motorRamp s = s := by
  simp [motorRamp, eventOf_reserved h]

/-- R91 (b), R165. -/
theorem phase_of_reserved {e : BitVec 3} (h : e.toNat = 6 ∨ e.toNat = 7) (c : Config) (n : Nat) :
    phase c e n = .none := by
  simp [phase, eventOf_reserved h]

/-- R91 (b), R152, R165: with a reserved code a tick does no ramp action and is silent. -/
theorem tick_of_reserved {level : Bool} {s t : State}
    (h : s.event.toNat = 6 ∨ s.event.toNat = 7) (ht : tick level s = some t) :
    t.event = s.event ∧ t.motorDuty = s.motorDuty ∧ t.rampCount = s.rampCount ∧ t.amp = 0#8 := by
  have he : t.event = s.event := by
    rcases tick_event_cases ht with he | ⟨hrun, -⟩
    · exact he
    · exact absurd hrun (eventCode_ne_reserved h _)
  have hramp : motorRamp (sensorWatch level s) = sensorWatch level s := by
    refine motorRamp_of_reserved ?_
    rwa [← tick_event ht, he]
  refine ⟨he, ?_, ?_, tick_amp_of_phase_none ht ?_⟩
  · rw [tick_motorDuty ht, hramp, sensorWatch_motorDuty]
  · rw [tick_rampCount ht, hramp, sensorWatch_rampCount]
  · rw [he]
    exact phase_of_reserved h _ _

/-- Settles O27. -/
theorem reservedEventCodesAreHandled : Obligations.ReservedEventCodesAreHandled := by
  refine ⟨fun i s => ?_, fun s hres => ?_⟩
  · obtain ⟨t, hx⟩ := exists_exec_next i s
    exact ⟨t, hx, fun h => (exec_event_legal_or_kept hx).resolve_left (Nat.not_le.mpr h)⟩
  · have h := (event_reserved_iff _).mp hres
    refine ⟨fun level => ?_, ?_⟩
    · obtain ⟨t, ht⟩ := exists_tick level s
      exact ⟨t, exec_tick_of_tick ht, tick_of_reserved h ht⟩
    · have hstart := button1Step_start (fall := true) (hold := true) rfl
        (eventCode_ne_reserved h .button1Pressed)
      refine ⟨_, rfl, ?_⟩
      rw [pinChange_of_button1 rfl rfl, hstart]
      exact ⟨rfl, rfl⟩

end Sys2Proof.Machine

/-! Proofs about the Event Debouncer (spec/40_event_debouncer.md): what each invocation of `PINCHG` does
(R112 to R120), and how its events reach the motor and the sound at later ticks: the whistle that goes on
from an interrupted pass (R189 (a)), and the stop ramp over many ticks (R149). -/

namespace Sys2Proof.Machine

/-! ## The invocations of PINCHG -/

theorem exec_pinchg (f1 h1 f2 h2 : Bool) (s : State) :
    exec (.pinchg f1 h1 f2 h2) s = .next (pinChange f1 h1 f2 h2 s) := by
  rfl

/-- R117: a Button2 press without a Button1 press. -/
theorem pinChange_of_button2_alone {f1 h1 f2 h2 : Bool} (hp1 : pressed f1 h1 = false)
    (hp2 : pressed f2 h2 = true) (s : State) :
    pinChange f1 h1 f2 h2 s = { s with soundCount := 0#16, event := eventCode .button2Pressed } := by
  rw [pinChange_of_button2 hp2, button1Step_unpressed hp1]

/-- Settles O17. -/
theorem button1PressStartsRun : Obligations.Button1PressStartsRun := by
  intro f2 h2 s hp2 he
  rw [exec_pinchg, pinChange_of_button1 rfl hp2, button1Step_start rfl he]
  rfl

/-- Settles O18. -/
theorem button1PressStopsRun : Obligations.Button1PressStopsRun := by
  intro f2 h2 s hp2 he hguard
  rw [exec_pinchg, pinChange_of_button1 rfl hp2, button1Step_stop rfl he hguard]
  rfl

/-- Settles O19. -/
theorem earlyButton1PressIgnored : Obligations.EarlyButton1PressIgnored := by
  intro f2 h2 s hp2 he hearly
  rw [exec_pinchg, pinChange_of_button1 rfl hp2, button1Step_early he hearly]

/-- Settles O20. -/
theorem button2PressClearsSoundCount : Obligations.Button2PressClearsSoundCount := by
  intro f1 h1 s hp1
  rw [exec_pinchg, pinChange_of_button2_alone hp1 rfl]

/-- Settles O21: a hold bit without its falling edge is no press. -/
theorem releaseNeedsNoFallingEdge : Obligations.ReleaseNeedsNoFallingEdge := by
  intro h1 h2 s he
  rw [exec_pinchg, pinChange_of_unpressed rfl rfl, releaseStep_fires he]

/-- Settles O22: only the release step is left, and a falling edge or another event keeps it from
firing. -/
theorem unqualifiedInvocationIgnored : Obligations.UnqualifiedInvocationIgnored := by
  intro f1 h1 f2 h2 s hp1 hp2 hno
  rw [exec_pinchg, pinChange_of_unpressed hp1 hp2]
  rcases hno with (rfl | rfl) | he
  · rw [releaseStep_fall1]
  · rw [releaseStep_fall2]
  · rw [releaseStep_other he]

/-- Settles O23. -/
theorem bothButtonsEndInButton2Pressed : Obligations.BothButtonsEndInButton2Pressed := by
  intro s
  rw [exec_pinchg, pinChange_press12]
  rfl

/-! ## Many ticks of a stop -/

theorem runTicks_nil (s : State) : runTicks [] s = .next s := by
  rfl

theorem runTicks_cons {level : Bool} {s t : State} (h : tick level s = some t)
    (levels : List Bool) : runTicks (level :: levels) s = runTicks levels t := by
  rw [runTicks, List.map_cons, runOps, exec_tick_of_tick h, runTicks]

/-- R134: only a run can lose its event at a tick. -/
theorem tick_event_of_ne {level : Bool} {s t : State} (h : tick level s = some t)
    (he : s.event ≠ eventCode .button1Pressed) : t.event = s.event :=
  (tick_event_cases h).resolve_right fun hmissing => he hmissing.1

/-- R149. -/
theorem motorRamp_of_button1Released {s : State} (h : s.event = eventCode .button1Released) :
    motorRamp s = rampDown s := by
  simp [motorRamp, h]

/-- R149: the tick that ends a step of the stop ramp. -/
theorem rampDown_of_full {s : State} (hd : 0 < s.motorDuty.toNat)
    (hr : s.cfg.n2 ≤ s.rampCount.toNat + 1) :
    rampDown s = { s with motorDuty := s.motorDuty - 1#8, rampCount := 0#16 } := by
  simp [rampDown, hd, hr]

/-- R149: a tick within a step of the stop ramp. -/
theorem rampDown_of_lt {s : State} (hd : 0 < s.motorDuty.toNat)
    (hr : s.rampCount.toNat + 1 < s.cfg.n2) :
    rampDown s = { s with rampCount := satW (s.rampCount.toNat + 1) } := by
  simp [rampDown, hd, Nat.not_le.mpr hr]

/-- R150: stopped. -/
theorem rampDown_of_zero {s : State} (hd : s.motorDuty.toNat = 0) : rampDown s = s := by
  simp [rampDown, hd]

/-- The duty that a stop has `k` ticks after the state `s`: the prescaler counts as many ticks more as it
holds already. -/
def stopDuty (s : State) (k : Nat) : Nat :=
  s.motorDuty.toNat - (s.rampCount.toNat + k) / s.cfg.n2

/-- R149, R150: a tick of the stop ramp takes the first of the `k + 1` ticks to come, and keeps the
prescaler below `N2`. -/
theorem rampDown_stopDuty {s : State} (hc : s.cfg.wfRamp) (hr : s.rampCount.toNat < s.cfg.n2) (k : Nat) :
    (rampDown s).rampCount.toNat < s.cfg.n2 ∧ stopDuty (rampDown s) k = stopDuty s (k + 1) := by
  obtain ⟨hpos, hlt, hmax⟩ := hc
  rcases Nat.eq_zero_or_pos s.motorDuty.toNat with hd | hd
  · rw [rampDown_of_zero hd]
    exact ⟨hr, by simp [stopDuty, hd]⟩
  · by_cases hfull : s.cfg.n2 ≤ s.rampCount.toNat + 1
    · have hpred := byte_pred_toNat hd
      have hstep : s.rampCount.toNat + (k + 1) = k + s.cfg.n2 := by omega
      rw [rampDown_of_full hd hfull]
      refine ⟨hpos, ?_⟩
      simp only [stopDuty, hstep, Nat.add_div_right k hpos, BitVec.toNat_ofNat, Nat.zero_mod, Nat.zero_add]
      omega
    · have hin : s.rampCount.toNat + 1 < s.cfg.n2 := Nat.lt_of_not_le hfull
      have hcount : (satW (s.rampCount.toNat + 1)).toNat = s.rampCount.toNat + 1 :=
        satW_toNat_of_le (by omega)
      rw [rampDown_of_lt hd hin]
      refine ⟨hcount.trans_lt hin, ?_⟩
      rw [stopDuty, stopDuty, hcount, Nat.add_right_comm, Nat.add_assoc]

/-- A tick of a stop is a tick of its ramp, whatever the sensor does (R137, R149). -/
theorem tick_stopDuty {level : Bool} {s t : State} (h : tick level s = some t) (hc : s.cfg.wfRamp)
    (he : s.event = eventCode .button1Released) (hr : s.rampCount.toNat < s.cfg.n2) (k : Nat) :
    t.rampCount.toNat < t.cfg.n2 ∧ stopDuty t k = stopDuty s (k + 1) := by
  obtain ⟨-, hcfg, -⟩ := tick_frame h
  have hwatch : (sensorWatch level s).event = eventCode .button1Released := by
    rw [← tick_event h, tick_event_of_ne h (by simp [he]), he]
  have hramp := rampDown_stopDuty (s := sensorWatch level s) (by simpa using hc) (by simpa using hr) k
  rw [← motorRamp_of_button1Released hwatch] at hramp
  simpa [stopDuty, tick_motorDuty h, tick_rampCount h, hcfg] using hramp

/-- R149, R150, from any prescaler below `N2`, by induction on the ticks. -/
theorem runTicks_stopDuty (levels : List Bool) {s : State} (hc : s.cfg.wfRamp)
    (he : s.event = eventCode .button1Released) (hr : s.rampCount.toNat < s.cfg.n2) :
    ∃ t, runTicks levels s = .next t ∧ t.event = eventCode .button1Released ∧
      t.motorDuty.toNat = stopDuty s levels.length := by
  induction levels generalizing s with
  | nil =>
    refine ⟨s, runTicks_nil s, he, ?_⟩
    rw [stopDuty, List.length_nil, Nat.add_zero, Nat.div_eq_of_lt hr, Nat.sub_zero]
  | cons level levels ih =>
    obtain ⟨t, ht⟩ := exists_tick level s
    obtain ⟨-, hcfg, -⟩ := tick_frame ht
    obtain ⟨hrt, hduty⟩ := tick_stopDuty ht hc he hr levels.length
    have het : t.event = eventCode .button1Released := by
      rw [tick_event_of_ne ht (by simp [he]), he]
    rw [runTicks_cons ht, List.length_cons, ← hduty]
    exact ih (hcfg ▸ hc) het hrt

/-- Settles O47: a stop begins with the prescaler cleared (R116). -/
theorem stopRampTakesDutyTimesN2Ticks : Obligations.StopRampTakesDutyTimesN2Ticks := by
  intro levels s hwf he hr
  obtain ⟨-, hramp, -⟩ := hwf
  have hcleared : s.rampCount.toNat < s.cfg.n2 := by
    rw [hr]
    exact hramp.1
  obtain ⟨t, hrun, het, hduty⟩ := runTicks_stopDuty levels hramp he hcleared
  exact ⟨t, hrun, het, by simpa [stopDuty, hr] using hduty⟩

/-! ## The branches of the engine -/

theorem word_pred_toNat {d : Word} (h : 0 < d.toNat) : (d - 1#16).toNat + 1 = d.toNat := by
  bv_omega

/-- R177. -/
theorem playback_of_pause {p : Phase} {tb : TableId} {s : State} (htb : tableOf p = some tb)
    (hd : 0 < s.delay.toNat) : playback p s = some (countPause s) := by
  simp [playback, htb, hd]

section Play

variable {p : Phase} {tb : TableId} {s : State} {b : Byte}

/-- R175: without a pause the engine works on the phase's table. -/
theorem playback_of_no_pause (htb : tableOf p = some tb) (hd : s.delay = 0#16) :
    playback p s = playTable p tb s := by
  simp [playback, htb, hd]

/-- R178. -/
theorem playback_of_end (htb : tableOf p = some tb) (hd : s.delay = 0#16)
    (hidx : tableLen s.cfg tb ≤ s.idx.toNat) : playback p s = some (endOfPass p s) := by
  rw [playback_of_no_pause htb hd, playTable, if_pos hidx]

/-- R186: the last entry, where no fade-in applies. -/
theorem playback_of_last (htb : tableOf p = some tb) (hd : s.delay = 0#16)
    (hidx : s.idx.toNat + 1 = tableLen s.cfg tb)
    (hfade : ¬(s.idx = 0#16 ∧ fadeCond s.cfg p s.soundCount.toNat = true))
    (hb : memRead s.cfg tb s.idx.toNat = some b) :
    playback p s = some (fadeOutTick b (tableLen s.cfg tb) s) := by
  have hlt : ¬ tableLen s.cfg tb ≤ s.idx.toNat := by omega
  have hlast : s.idx.toNat = tableLen s.cfg tb - 1 := by omega
  rw [playback_of_no_pause htb hd, playTable, if_neg hlt, if_neg hfade, if_pos hlast, ← hlast, hb,
    Option.map_some]

/-- R187: an inner entry, or the first one where no fade-in applies. -/
theorem playback_of_inner (htb : tableOf p = some tb) (hd : s.delay = 0#16)
    (hidx : s.idx.toNat + 1 < tableLen s.cfg tb)
    (hfade : ¬(s.idx = 0#16 ∧ fadeCond s.cfg p s.soundCount.toNat = true))
    (hb : memRead s.cfg tb s.idx.toNat = some b) :
    playback p s = some (normalTick b s) := by
  have hlt : ¬ tableLen s.cfg tb ≤ s.idx.toNat := by omega
  have hlast : ¬ s.idx.toNat = tableLen s.cfg tb - 1 := by omega
  rw [playback_of_no_pause htb hd, playTable, if_neg hlt, if_neg hfade, if_neg hlast, hb,
    Option.map_some]

end Play

/-- R186: the amplitude of a fade-out tick, from a fade that its increment does not carry over (R27). -/
theorem fadeOutTick_amp {s : State} (hfade : fadeBounded s) (b : Byte) (len : Nat) :
    (fadeOutTick b len s).amp.toNat = b.toNat - (s.fade.toNat + 1) := by
  have hb := b.isLt
  simp only [fadeOutTick, incFade_of_lt hfade, fade_succ_toNat hfade]
  split <;> simp only [BitVec.toNat_ofNat] <;> omega

/-- R186: the last tick of a fade-out. -/
theorem fadeOutTick_last {b : Byte} {s : State} (hfade : fadeBounded s)
    (hb : b.toNat ≤ s.fade.toNat + 1) (len : Nat) :
    (fadeOutTick b len s).idx = satW len ∧ (fadeOutTick b len s).fade = 0#8 := by
  simp [fadeOutTick, incFade_of_lt hfade, fade_succ_toNat hfade, hb]

/-- R186: a fade-out that goes on. -/
theorem fadeOutTick_inner {b : Byte} {s : State} (hfade : fadeBounded s)
    (hb : s.fade.toNat + 1 < b.toNat) (len : Nat) :
    (fadeOutTick b len s).idx = s.idx ∧ (fadeOutTick b len s).fade.toNat = s.fade.toNat + 1 := by
  have hnot : ¬ b.toNat ≤ s.fade.toNat + 1 := Nat.not_le.mpr hb
  simp [fadeOutTick, incFade_of_lt hfade, fade_succ_toNat hfade, hnot]

/-! ## The whistle of an interrupted pass -/

/-- What the engine finds at the first tick after a Button2 press in the state `s`: the duty is off, the
count is fresh, the watch has moved its two counters, and the cursor of the interrupted pass is untouched
(R117, R151, R189 (a)). -/
def whistleFront (s : State) (sensorCount windowCount : Word) : State :=
  { s with
    event := eventCode .button2Pressed, soundCount := 0#16, motorDuty := 0#8
    sensorCount := sensorCount, windowCount := windowCount }

/-- R151. -/
theorem motorRamp_of_button2Pressed {s : State} (h : s.event = eventCode .button2Pressed) :
    motorRamp s = forceStop s := by
  simp [motorRamp, h]

/-- R164. -/
theorem phase_button2Pressed (c : Config) (n : Nat) :
    phase c (eventCode .button2Pressed) n = .whistling := by
  simp [phase]

/-- R117, R189 (a): the tick after a Button2 press is in phase Whistling, with the old cursor. -/
theorem tick_after_button2 {level : Bool} {s u : State}
    (h : tick level { s with soundCount := 0#16, event := eventCode .button2Pressed } = some u) :
    ∃ c w v, playback .whistling (whistleFront s c w) = some v ∧ u = writeOutputs v := by
  obtain ⟨v, hv, rfl⟩ := tick_cases h
  obtain ⟨e, c, w, d, r, -, hramp, hfront, he⟩ :=
    tickFront_cases level { s with soundCount := 0#16, event := eventCode .button2Pressed }
  obtain rfl : e = eventCode .button2Pressed := he.resolve_right (by simp)
  rw [motorRamp_of_button2Pressed rfl] at hramp
  obtain rfl : 0#8 = d := congrArg State.motorDuty hramp
  obtain rfl : s.rampCount = r := congrArg State.rampCount hramp
  rw [hfront, tickPhase, phase_button2Pressed, countAfterRewind_of_ne (by simp)] at hv
  exact ⟨c, w, v, hv, rfl⟩

/-- R184, R6 (d): a whistle pass that counts as number 0 is before every window, so it is not faded in. -/
theorem fadeCond_whistling_zero {c : Config} (hwf : c.WF) : fadeCond c .whistling 0 = false := by
  obtain ⟨-, -, ⟨hstart, -, -⟩, ⟨⟨hr1, -⟩, ⟨hw, -⟩, ⟨hr2, -⟩⟩, -⟩ := hwf
  have h1 : 0 ≠ c.r1Lo := by omega
  have h2 : 0 ≠ c.wLo := by omega
  have h3 : 0 ≠ c.r2Lo := by omega
  simp [fadeCond, phaseCode, h1, h2, h3]

/-- Settles O46: the engine takes up the whistle table in the state the press left, where no fade-in
applies. -/
theorem whistleInheritsCursor : Obligations.WhistleInheritsCursor := by
  intro level s hwf hfade
  obtain ⟨u, hu⟩ := exists_tick level
    { s with soundCount := 0#16, event := eventCode .button2Pressed }
  obtain ⟨c, w, v, hv, rfl⟩ := tick_after_button2 hu
  have hnofade : ¬(s.idx = 0#16 ∧ fadeCond s.cfg .whistling 0 = true) := by
    simp [fadeCond_whistling_zero hwf]
  obtain ⟨-, -, -, -, -, -, -, ⟨-, -, -, hlen, -⟩, -⟩ := hwf
  refine ⟨_, _, congrArg Host.Outcome.next (pinChange_of_button2_alone rfl rfl s), rfl,
    exec_tick_of_tick hu, ?_⟩
  obtain ⟨hevent, hduty⟩ : v.event = eventCode .button2Pressed ∧ v.motorDuty = 0#8 := by
    obtain ⟨_, _, _, _, _, _, rfl⟩ := playback_frame hv
    exact ⟨rfl, rfl⟩
  refine ⟨hevent, hduty, hduty, fun hd => ?_, fun hd hidx => ?_, fun b hd hidx hb => ?_,
    fun b hd hidx hb => ?_⟩
  · obtain rfl := Option.some.inj (hv.symm.trans (playback_of_pause rfl hd))
    exact ⟨word_pred_toNat hd, rfl, rfl, rfl, rfl⟩
  · obtain rfl := Option.some.inj (hv.symm.trans (playback_of_end rfl hd hidx))
    exact ⟨rfl, rfl, rfl, rfl, rfl⟩
  · obtain rfl := Option.some.inj (hv.symm.trans (playback_of_last rfl hd hidx hnofade hb))
    have hbound : fadeBounded (whistleFront s c w) := hfade
    refine ⟨fadeOutTick_amp hbound b _, fadeOutTick_soundCount b _ _, fun hle => ?_,
      fun hlt => fadeOutTick_inner hbound hlt _⟩
    obtain ⟨hi, hf⟩ := fadeOutTick_last hbound hle s.cfg.whistle.length
    exact ⟨(congrArg BitVec.toNat hi).trans (satW_toNat_of_le hlen), hf⟩
  · obtain rfl := Option.some.inj (hv.symm.trans (playback_of_inner rfl hd hidx hnofade hb))
    exact ⟨rfl, satW_toNat_of_le (hidx.le.trans hlen), rfl, rfl⟩

end Sys2Proof.Machine

/-! Proofs about the sensor watch of `TICK` (spec/41_tick_sequence_sensor_watch.md): what the watch does within
a window and at its end (R132 to R134), and the windows of a run (R137). -/

namespace Sys2Proof.Machine

/-! ## The sensor count -/

theorem satW_succ_ne_zero (n : Nat) : satW (n + 1) ≠ 0#16 := by
  intro h
  have hpos : 0 < min (n + 1) wordMax := Nat.lt_min.mpr ⟨n.succ_pos, by decide⟩
  rw [← satW_toNat, h] at hpos
  exact Nat.lt_irrefl 0 hpos

theorem countSensor_of_pulse {level : Bool} {s : State} (h : s.sensorEn = true ∧ level = true) :
    countSensor level s = { s with sensorCount := satW (s.sensorCount.toNat + 1) } := by
  obtain ⟨hen, hlevel⟩ := h
  simp [countSensor, hen, hlevel]

theorem countSensor_of_no_pulse {level : Bool} {s : State}
    (h : ¬(s.sensorEn = true ∧ level = true)) : countSensor level s = s := by
  rw [countSensor, if_neg (by rwa [Bool.and_eq_true])]

theorem countSensor_frame (level : Bool) (s : State) :
    ∃ c, countSensor level s = { s with sensorCount := c } := by
  by_cases h : s.sensorEn = true ∧ level = true
  · exact ⟨_, countSensor_of_pulse h⟩
  · exact ⟨s.sensorCount, countSensor_of_no_pulse h⟩

@[simp] theorem countSensor_event (level : Bool) (s : State) :
    (countSensor level s).event = s.event := by
  obtain ⟨c, hc⟩ := countSensor_frame level s
  rw [hc]

/-- A counted pulse shows in the count, as the count saturates and never wraps to 0. -/
theorem countSensor_sensorCount_eq_zero_iff (level : Bool) (s : State) :
    (countSensor level s).sensorCount = 0#16 ↔
      s.sensorCount = 0#16 ∧ ¬(s.sensorEn = true ∧ level = true) := by
  by_cases h : s.sensorEn = true ∧ level = true
  · rw [countSensor_of_pulse h]
    exact ⟨fun hz => absurd hz (satW_succ_ne_zero _), fun hz => absurd h hz.2⟩
  · rw [countSensor_of_no_pulse h]
    exact ⟨fun hz => ⟨hz, h⟩, And.left⟩

/-! ## The window -/

/-- R133: a tick within a window. -/
theorem sensorWatch_of_open {level : Bool} {s : State}
    (h : min (s.windowCount.toNat + 1) wordMax < s.cfg.ticksPerWindow) :
    sensorWatch level s =
      { countSensor level s with windowCount := satW (s.windowCount.toNat + 1) } := by
  obtain ⟨c, hc⟩ := countSensor_frame level s
  rw [sensorWatch, hc]
  exact if_neg (Nat.not_le.mpr ((satW_toNat _).trans_lt h))

theorem closeWindow_of_full {s : State} (h : s.cfg.ticksPerWindow ≤ s.windowCount.toNat) :
    closeWindow s =
      { s with event := (sensorCheck s).event, sensorCount := 0#16, windowCount := 0#16 } := by
  rw [closeWindow, if_pos h]
  unfold sensorCheck
  split <;> rfl

/-- R134: what the check leaves is SensorMissing for a run without a pulse. -/
theorem sensorCheck_event (s : State) :
    (sensorCheck s).event =
      if s.event = eventCode .button1Pressed ∧ s.sensorCount = 0#16 then eventCode .sensorMissing
      else s.event := by
  unfold sensorCheck
  split <;> rfl

/-- R134: the check does not look at the elapsed ticks. -/
theorem sensorCheck_incWindow_event (s : State) :
    (sensorCheck (incWindow s)).event = (sensorCheck s).event := by
  rw [sensorCheck_event, sensorCheck_event]
  rfl

/-- R133: the tick that ends a window. -/
theorem sensorWatch_of_full {level : Bool} {s : State}
    (h : s.cfg.ticksPerWindow ≤ min (s.windowCount.toNat + 1) wordMax) :
    sensorWatch level s =
      { s with
        event := (sensorCheck (countSensor level s)).event
        sensorCount := 0#16, windowCount := 0#16 } := by
  obtain ⟨c, hc⟩ := countSensor_frame level s
  have hfull : (incWindow (countSensor level s)).cfg.ticksPerWindow ≤
      (incWindow (countSensor level s)).windowCount.toNat := by
    rw [hc]
    exact h.trans_eq (satW_toNat _).symm
  rw [sensorWatch, closeWindow_of_full hfull, sensorCheck_incWindow_event, hc]
  rfl

/-- R133, R134: a pulse on the window's last tick still counts for the check. -/
theorem sensorWatch_event_of_full_silent {level : Bool} {s : State}
    (hfull : s.cfg.ticksPerWindow ≤ min (s.windowCount.toNat + 1) wordMax)
    (he : s.event = eventCode .button1Pressed) (hc : s.sensorCount = 0#16)
    (hp : ¬(s.sensorEn = true ∧ level = true)) :
    (sensorWatch level s).event = eventCode .sensorMissing := by
  have hzero := (countSensor_sensorCount_eq_zero_iff level s).mpr ⟨hc, hp⟩
  rw [sensorWatch_of_full hfull]
  exact (sensorCheck_event _).trans (if_pos ⟨(countSensor_event level s).trans he, hzero⟩)

theorem sensorWatch_event_of_full_not_silent {level : Bool} {s : State}
    (hfull : s.cfg.ticksPerWindow ≤ min (s.windowCount.toNat + 1) wordMax)
    (h : s.event ≠ eventCode .button1Pressed ∨ s.sensorCount ≠ 0#16 ∨
      (s.sensorEn = true ∧ level = true)) :
    (sensorWatch level s).event = s.event := by
  have hnot : ¬((countSensor level s).event = eventCode .button1Pressed ∧
      (countSensor level s).sensorCount = 0#16) := by
    rw [countSensor_event, countSensor_sensorCount_eq_zero_iff]
    rintro ⟨he, hc, hp⟩
    rcases h with hne | hne | hpulse
    · exact hne he
    · exact hne hc
    · exact hp hpulse
  rw [sensorWatch_of_full hfull]
  exact (sensorCheck_event _).trans ((if_neg hnot).trans (countSensor_event level s))

/-! ## The watch of a tick -/

@[simp] theorem motorRamp_sensorCount (s : State) : (motorRamp s).sensorCount = s.sensorCount := by
  obtain ⟨d, r, h⟩ := motorRamp_frame s
  rw [h]

theorem tick_sensorCount {level : Bool} {s t : State} (h : tick level s = some t) :
    t.sensorCount = (sensorWatch level s).sensorCount := by
  obtain ⟨i, f, d, a, n, k, rfl⟩ := tick_eq h
  exact motorRamp_sensorCount _

/-- R133: both counters of the watch start again with the next window. -/
theorem tick_counts_of_full {level : Bool} {s t : State} (h : tick level s = some t)
    (hfull : s.cfg.ticksPerWindow ≤ min (s.windowCount.toNat + 1) wordMax) :
    t.sensorCount = 0#16 ∧ t.windowCount = 0#16 := by
  rw [tick_sensorCount h, tick_windowCount h, sensorWatch_of_full hfull]
  exact ⟨rfl, rfl⟩

/-- R132, R133: a tick within a window counts itself and its pulse, and checks nothing. -/
theorem tick_of_open {level : Bool} {s t : State} (h : tick level s = some t)
    (hopen : min (s.windowCount.toNat + 1) wordMax < s.cfg.ticksPerWindow) :
    t.event = s.event ∧ t.windowCount.toNat = min (s.windowCount.toNat + 1) wordMax ∧
      t.sensorCount = (countSensor level s).sensorCount := by
  rw [tick_event h, tick_sensorCount h, tick_windowCount h, sensorWatch_of_open hopen]
  exact ⟨countSensor_event level s, satW_toNat _, rfl⟩

/-- Settles O30, by whether the tick ends the window. -/
theorem tickWatchesSensor : Obligations.TickWatchesSensor := by
  intro level s
  obtain ⟨t, ht⟩ := exists_tick level s
  refine ⟨t, exec_tick_of_tick ht, fun hfull => ?_, fun hopen => ?_⟩
  · obtain ⟨hcount, hwindow⟩ := tick_counts_of_full ht hfull
    rw [tick_event ht]
    exact ⟨hcount, hwindow, sensorWatch_event_of_full_silent hfull,
      sensorWatch_event_of_full_not_silent hfull⟩
  · obtain ⟨hevent, hwindow, hcount⟩ := tick_of_open ht hopen
    refine ⟨hevent, hwindow, fun hpulse => ?_, fun hno => ?_⟩
    · rw [hcount, countSensor_of_pulse hpulse, satW_toNat]
    · rw [hcount, countSensor_of_no_pulse hno]

/-- The level reaches a tick through the sensor count alone (R131, R132). -/
theorem exec_tick_congr {level level' : Bool} {s : State}
    (h : countSensor level s = countSensor level' s) :
    exec (.tick level) s = exec (.tick level') s := by
  simp only [exec_tick, execTick, tick, tickFront, sensorWatch, h]

/-- Settles O31: there is no pulse without the sensor line. -/
theorem sensorLevelIgnoredWhenDisabled : Obligations.SensorLevelIgnoredWhenDisabled := by
  intro s hoff
  have hno (level : Bool) : countSensor level s = s :=
    countSensor_of_no_pulse fun ⟨hon, _⟩ => Bool.false_ne_true (hoff.symm.trans hon)
  exact exec_tick_congr ((hno true).trans (hno false).symm)

/-! ## A window of a run -/

/-- A run under configuration `c` that stands `k` ticks into a window and has had `n` pulses in it (R137). -/
structure InWindow (c : Config) (k n : Nat) (s : State) : Prop where
  cfg : s.cfg = c
  event : s.event = eventCode .button1Pressed
  enabled : s.sensorEn = true
  elapsed : s.windowCount.toNat = k
  pulses : s.sensorCount.toNat = n
  pulses_le : n ≤ k

/-- Below the end of the window no counter saturates. -/
theorem tick_inWindow {c : Config} {k n : Nat} {level : Bool} {s t : State}
    (hc : c.wfWindowTicks) (hs : InWindow c k n s) (hk : k + 1 < c.ticksPerWindow)
    (ht : tick level s = some t) : InWindow c (k + 1) (n + level.toNat) t := by
  obtain ⟨rfl, he, hen, rfl, rfl, hle⟩ := hs
  obtain ⟨-, hmax⟩ := hc
  obtain ⟨hent, hcfg, -⟩ := tick_frame ht
  obtain ⟨hevent, hwindow, hcount⟩ := tick_of_open ht (by omega)
  refine ⟨hcfg, hevent.trans he, hent.trans hen, by omega, ?_, ?_⟩
  · cases level with
    | false => rw [hcount, countSensor_of_no_pulse (by simp), Bool.toNat_false, Nat.add_zero]
    | true =>
      rw [hcount, countSensor_of_pulse ⟨hen, rfl⟩]
      exact satW_toNat_of_le (by omega)
  · exact Nat.add_le_add hle (Bool.toNat_le level)

theorem runTicks_append {levels : List Bool} {s t : State} (h : runTicks levels s = .next t)
    (more : List Bool) : runTicks (levels ++ more) s = runTicks more t := by
  induction levels generalizing s with
  | nil =>
    obtain rfl : s = t := Host.Outcome.next.inj h
    rfl
  | cons level levels ih =>
    obtain ⟨u, hu⟩ := exists_tick level s
    rw [runTicks_cons hu] at h
    rw [List.cons_append, runTicks_cons hu, ih h]

/-- R137: nothing but time and pulses happens to the watch before the window ends. -/
theorem runTicks_inWindow {c : Config} (hc : c.wfWindowTicks) (levels : List Bool) {k n : Nat}
    {s : State} (hs : InWindow c k n s) (hk : k + levels.length < c.ticksPerWindow) :
    ∃ t, runTicks levels s = .next t ∧ InWindow c (k + levels.length) (n + levels.count true) t := by
  induction levels generalizing k n s with
  | nil => exact ⟨s, runTicks_nil s, hs⟩
  | cons level levels ih =>
    rw [List.length_cons] at hk
    obtain ⟨u, hu⟩ := exists_tick level s
    obtain ⟨t, hrun, ht⟩ := ih (tick_inWindow hc hs (by omega) hu) (by omega)
    refine ⟨t, (runTicks_cons hu levels).trans hrun, ?_⟩
    have hlen : k + (level :: levels).length = k + 1 + levels.length := by
      rw [List.length_cons]
      omega
    have hcount : n + (level :: levels).count true = n + level.toNat + levels.count true := by
      rw [List.count_cons, Nat.add_assoc, Nat.add_comm (levels.count true)]
      cases level <;> rfl
    rwa [hlen, hcount]

/-- R134: the check at the end of a window of a run, over the pulses of the whole window. -/
theorem tick_ends_window {c : Config} {k n : Nat} {level : Bool} {s t : State}
    (hc : c.wfWindowTicks) (hs : InWindow c k n s) (hk : k + 1 = c.ticksPerWindow)
    (ht : tick level s = some t) :
    t.windowCount = 0#16 ∧ t.sensorCount = 0#16 ∧
      (n + level.toNat = 0 → t.event = eventCode .sensorMissing) ∧
      (n + level.toNat ≠ 0 → t.event = eventCode .button1Pressed) := by
  obtain ⟨rfl, he, hen, rfl, rfl, -⟩ := hs
  obtain ⟨-, hmax⟩ := hc
  have hfull : s.cfg.ticksPerWindow ≤ min (s.windowCount.toNat + 1) wordMax := by omega
  have hzero : s.sensorCount = 0#16 ↔ s.sensorCount.toNat = 0 := BitVec.toNat_inj.symm
  obtain ⟨hcount, hwindow⟩ := tick_counts_of_full ht hfull
  rw [tick_event ht]
  refine ⟨hwindow, hcount, fun hsilent => ?_, fun hpulse => ?_⟩
  · obtain ⟨hn, hlevel⟩ := Nat.add_eq_zero_iff.mp hsilent
    refine sensorWatch_event_of_full_silent hfull he (hzero.mpr hn) fun ⟨_, hl⟩ => ?_
    simp [hl] at hlevel
  · rw [← he]
    refine sensorWatch_event_of_full_not_silent hfull (Or.inr ?_)
    cases level with
    | true => exact Or.inr ⟨hen, rfl⟩
    | false => exact Or.inl (mt hzero.mp hpulse)

/-- R133, R134 over a whole window: the run up to the last tick, then the check. -/
theorem runTicks_window {levels : List Bool} {c : Config} {s : State} (hc : c.wfWindowTicks)
    (hs : InWindow c 0 0 s) (hlen : levels.length = c.ticksPerWindow) :
    ∃ t, runTicks levels s = .next t ∧ t.windowCount = 0#16 ∧ t.sensorCount = 0#16 ∧
      (levels.count true = 0 → t.event = eventCode .sensorMissing) ∧
      (levels.count true ≠ 0 → t.event = eventCode .button1Pressed) := by
  have ⟨hpos, _⟩ := hc
  rcases List.eq_nil_or_concat' levels with rfl | ⟨init, last, rfl⟩
  · rw [← hlen, List.length_nil] at hpos
    omega
  · rw [List.length_append, List.length_singleton] at hlen
    obtain ⟨u, hrun, hu⟩ := runTicks_inWindow hc init hs (by omega)
    obtain ⟨t, ht⟩ := exists_tick last u
    refine ⟨t, by rw [runTicks_append hrun, runTicks_cons ht, runTicks_nil], ?_⟩
    have hcount : (init ++ [last]).count true = 0 + init.count true + last.toNat := by
      cases last <;> simp
    rw [hcount]
    exact tick_ends_window hc hu (by omega) ht

/-- Settles O49: a fresh window is 0 ticks old and has had no pulse. -/
theorem sensorMissingIffWindowSilent : Obligations.SensorMissingIffWindowSilent := by
  intro levels s hwf he hen hcount hwindow hle
  obtain ⟨-, -, -, -, -, -, -, -, hc⟩ := hwf
  have hs : InWindow s.cfg 0 0 s :=
    ⟨rfl, he, hen, congrArg BitVec.toNat hwindow, congrArg BitVec.toNat hcount, le_rfl⟩
  rcases hle.lt_or_eq with hlt | heq
  · obtain ⟨t, hrun, ht⟩ := runTicks_inWindow hc levels hs (by omega)
    exact ⟨t, hrun, fun _ => ⟨ht.event, by simpa using ht.elapsed, by simpa using ht.pulses⟩,
      fun heq => absurd heq hlt.ne⟩
  · obtain ⟨t, hrun, hw, hn, hsilent, hpulse⟩ := runTicks_window hc hs heq
    refine ⟨t, hrun, fun hlt => absurd heq hlt.ne, fun _ => ⟨hw, hn, fun hall => ?_, ?_⟩⟩
    · exact hsilent (List.count_eq_zero.mpr fun hmem => Bool.false_ne_true (hall true hmem).symm)
    · rintro ⟨l, hmem, rfl⟩
      exact hpulse (List.count_pos_iff.mpr hmem).ne'

end Sys2Proof.Machine

/-! Proofs about the motor ramp of `TICK` (spec/42_motor_ramp.md): what the ramp does to the duty and the
prescaler in each of its cases (R146 to R152), and the start ramp over many ticks (R147). -/

namespace Sys2Proof.Machine

/-! ## The ramp, case by case -/

/-- R146. -/
theorem motorRamp_of_button1Pressed {s : State} (h : s.event = eventCode .button1Pressed) :
    motorRamp s = rampUp s := by
  simp [motorRamp, h]

/-- R151. -/
theorem motorRamp_of_forced {s : State}
    (h : s.event = eventCode .button2Pressed ∨ s.event = eventCode .sensorMissing ∨
      s.event = eventCode .button2Released) : motorRamp s = forceStop s := by
  rcases h with h | h | h <;> simp [motorRamp, h]

/-- R152, R91 (b). -/
theorem motorRamp_of_held {s : State} (h : s.event = eventCode .none ∨ 5 < s.event.toNat) :
    motorRamp s = s :=
  h.elim motorRamp_of_none fun hres => motorRamp_of_reserved ((event_reserved_iff _).mp hres)

/-- R146: the start jump. -/
theorem rampUp_of_cleared {s : State} (hd : s.motorDuty.toNat < motorMax) (hr : s.rampCount = 0#16) :
    rampUp s = { s with motorDuty := s.cfg.motorStart, rampCount := 1#16 } := by
  rw [rampUp, if_pos hd, if_pos hr]

/-- R147: the tick that takes a step of the start ramp. -/
theorem rampUp_of_full {s : State} (hd : s.motorDuty.toNat < motorMax) (h0 : s.rampCount ≠ 0#16)
    (hr : s.cfg.n1 ≤ s.rampCount.toNat) :
    rampUp s = { s with motorDuty := s.motorDuty + 1#8, rampCount := 1#16 } := by
  rw [rampUp, if_pos hd, if_neg h0, if_pos hr]

/-- R147: a tick within a step of the start ramp. -/
theorem rampUp_of_lt {s : State} (hd : s.motorDuty.toNat < motorMax) (h0 : s.rampCount ≠ 0#16)
    (hr : s.rampCount.toNat < s.cfg.n1) :
    rampUp s = { s with rampCount := satW (s.rampCount.toNat + 1) } := by
  rw [rampUp, if_pos hd, if_neg h0, if_neg (Nat.not_le.mpr hr)]

/-- R148: full speed. -/
theorem rampUp_of_max {s : State} (hd : s.motorDuty.toNat = motorMax) : rampUp s = s := by
  rw [rampUp, if_neg hd.not_lt]

/-! ## The ramp of a tick -/

/-- The ramp of a tick acts on a state that has the event of the next state, and the duty, the prescaler
and the configuration of the state before the tick: the sensor watch writes none of the three, and no
later sub-step writes the event (R131). -/
theorem tick_motor {level : Bool} {s t : State} (h : tick level s = some t) :
    ∃ w, w.event = t.event ∧ w.motorDuty = s.motorDuty ∧ w.rampCount = s.rampCount ∧ w.cfg = s.cfg ∧
      t.motorDuty = (motorRamp w).motorDuty ∧ t.rampCount = (motorRamp w).rampCount :=
  ⟨sensorWatch level s, (tick_event h).symm, sensorWatch_motorDuty level s,
    sensorWatch_rampCount level s, sensorWatch_cfg level s, tick_motorDuty h, tick_rampCount h⟩

/-- Settles O32, clause by clause in the order of the rules. -/
theorem tickRampsMotor : Obligations.TickRampsMotor := by
  intro level s
  obtain ⟨t, ht⟩ := exists_tick level s
  refine ⟨t, exec_tick_of_tick ht, ?_⟩
  obtain ⟨w, hevent, hduty, hcount, hcfg, htd, htr⟩ := tick_motor ht
  rw [← hevent, ← hduty, ← hcount, ← hcfg, htd, htr]
  refine ⟨fun he hd hr => ?_, fun he hd h0 hr => ?_, fun he hd h0 hr => ?_, fun he hd => ?_,
    fun he hd hr => ?_, fun he hd hr => ?_, fun he hd => ?_, fun he => ?_, fun he => ?_⟩
  · rw [motorRamp_of_button1Pressed he, rampUp_of_cleared hd hr]
    exact ⟨rfl, rfl⟩
  · rw [motorRamp_of_button1Pressed he, rampUp_of_full hd h0 hr]
    exact ⟨byte_succ_toNat hd, rfl⟩
  · rw [motorRamp_of_button1Pressed he, rampUp_of_lt hd h0 hr]
    exact ⟨rfl, satW_toNat _⟩
  · rw [motorRamp_of_button1Pressed he, rampUp_of_max hd]
    exact ⟨rfl, rfl⟩
  · rw [motorRamp_of_button1Released he, rampDown_of_full hd hr]
    exact ⟨byte_pred_toNat hd, rfl⟩
  · rw [motorRamp_of_button1Released he, rampDown_of_lt hd hr]
    exact ⟨rfl, satW_toNat _⟩
  · rw [motorRamp_of_button1Released he, rampDown_of_zero hd]
    exact ⟨rfl, rfl⟩
  · rw [motorRamp_of_forced he]
    exact ⟨rfl, rfl⟩
  · rw [motorRamp_of_held he]
    exact ⟨rfl, rfl⟩

/-! ## Many ticks of a run -/

/-- The prescaler of a run after its start jump (R146, R147). -/
def rampStarted (s : State) : Prop := 1 ≤ s.rampCount.toNat ∧ s.rampCount.toNat ≤ s.cfg.n1

/-- The duty that a run has `k` ticks after the state `s`: after the start jump the prescaler is one
ahead of the ticks that count towards the next step. -/
def startDuty (s : State) (k : Nat) : Nat :=
  min motorMax (s.motorDuty.toNat + (s.rampCount.toNat - 1 + k) / s.cfg.n1)

/-- The tick that writes the duty leaves the prescaler at 1 (R146, R147). -/
theorem startDuty_of_rampCount_one {s : State} (h : s.rampCount = 1#16) (k : Nat) :
    startDuty s k = min motorMax (s.motorDuty.toNat + k / s.cfg.n1) := by
  simp [startDuty, h]

/-- R148. -/
theorem startDuty_of_max {s : State} (h : s.motorDuty.toNat = motorMax) (k : Nat) :
    startDuty s k = motorMax := by
  rw [startDuty, h, min_eq_left (Nat.le_add_right _ _)]

/-- The closed form is right when no tick is left. -/
theorem startDuty_zero {s : State} (hs : rampStarted s) : startDuty s 0 = s.motorDuty.toNat := by
  obtain ⟨hone, hle⟩ := hs
  have hd : s.motorDuty.toNat ≤ motorMax := Nat.le_of_lt_succ s.motorDuty.isLt
  have hsteps : (s.rampCount.toNat - 1 + 0) / s.cfg.n1 = 0 := Nat.div_eq_of_lt (by omega)
  rw [startDuty, hsteps, Nat.add_zero, min_eq_right hd]

/-- R146: the tick of the start jump. -/
theorem rampUp_startDuty_of_cleared {s : State} (hc : s.cfg.wfRamp)
    (hd : s.motorDuty.toNat < motorMax) (hr : s.rampCount = 0#16) (k : Nat) :
    rampStarted (rampUp s) ∧
      startDuty (rampUp s) k = min motorMax (s.cfg.motorStart.toNat + k / s.cfg.n1) := by
  obtain ⟨hpos, hlt, -⟩ := hc
  rw [rampUp_of_cleared hd hr]
  exact ⟨⟨le_rfl, hpos.trans hlt.le⟩, startDuty_of_rampCount_one rfl k⟩

/-- R147, R148: a tick of the start ramp takes the first of the `k + 1` ticks to come, and keeps the
prescaler between 1 and `N1`. -/
theorem rampUp_startDuty {s : State} (hc : s.cfg.wfRamp) (hs : rampStarted s) (k : Nat) :
    rampStarted (rampUp s) ∧ startDuty (rampUp s) k = startDuty s (k + 1) := by
  obtain ⟨-, -, hmax⟩ := hc
  have ⟨hone, hle⟩ := hs
  have hpos : 0 < s.cfg.n1 := hone.trans hle
  have h0 : s.rampCount ≠ 0#16 := fun h => by simp [h] at hone
  rcases (Nat.le_of_lt_succ s.motorDuty.isLt).lt_or_eq with hd | hd
  · rcases hle.lt_or_eq with hin | hfull
    · have hcount : (satW (s.rampCount.toNat + 1)).toNat = s.rampCount.toNat + 1 :=
        satW_toNat_of_le (hin.trans_le hmax)
      have hstep : s.rampCount.toNat + 1 - 1 + k = s.rampCount.toNat - 1 + (k + 1) := by omega
      rw [rampUp_of_lt hd h0 hin]
      refine ⟨⟨(Nat.succ_pos _).trans_eq hcount.symm, hcount.trans_le hin⟩, ?_⟩
      rw [startDuty, startDuty, hcount, hstep]
    · have hstep : s.rampCount.toNat - 1 + (k + 1) = k + s.cfg.n1 := by omega
      rw [rampUp_of_full hd h0 hfull.ge]
      refine ⟨⟨le_rfl, hpos⟩, ?_⟩
      rw [startDuty_of_rampCount_one rfl, startDuty, byte_succ_toNat hd, hstep, Nat.add_div_right k hpos,
        Nat.add_assoc, Nat.add_comm 1]
  · rw [rampUp_of_max hd]
    exact ⟨hs, (startDuty_of_max hd k).trans (startDuty_of_max hd _).symm⟩

/-- The start ramp reads no more than the duty, the prescaler and the configuration. -/
theorem rampUp_congr {s w : State} (hd : w.motorDuty = s.motorDuty) (hr : w.rampCount = s.rampCount)
    (hc : w.cfg = s.cfg) :
    (rampUp w).motorDuty = (rampUp s).motorDuty ∧ (rampUp w).rampCount = (rampUp s).rampCount := by
  unfold rampUp
  rw [hd, hr, hc]
  split_ifs <;> simp [hd, hr]

@[simp] theorem rampUp_cfg (s : State) : (rampUp s).cfg = s.cfg := by
  rcases rampUp_cases s with ⟨-, h⟩ | ⟨-, h⟩ | ⟨-, h⟩ | h <;> rw [h]

/-- R131, R146 to R148: a tick that leaves a run is a tick of its start ramp. -/
theorem tick_rampUp {level : Bool} {s t : State} (h : tick level s = some t)
    (he : t.event = eventCode .button1Pressed) :
    t.motorDuty = (rampUp s).motorDuty ∧ t.rampCount = (rampUp s).rampCount ∧
      t.cfg = (rampUp s).cfg := by
  obtain ⟨w, hevent, hd, hr, hc, htd, htr⟩ := tick_motor h
  obtain ⟨-, hcfg, -⟩ := tick_frame h
  obtain ⟨hduty, hcount⟩ := rampUp_congr hd hr hc
  rw [motorRamp_of_button1Pressed (hevent.trans he)] at htd htr
  exact ⟨htd.trans hduty, htr.trans hcount, hcfg.trans (rampUp_cfg s).symm⟩

/-- What the start ramp makes of the closed form is what the tick makes of it. -/
theorem tick_startDuty {level : Bool} {s t : State} (h : tick level s = some t)
    (he : t.event = eventCode .button1Pressed) :
    (rampStarted t ↔ rampStarted (rampUp s)) ∧ ∀ k, startDuty t k = startDuty (rampUp s) k := by
  obtain ⟨hd, hr, hc⟩ := tick_rampUp h he
  simp only [rampStarted, startDuty, hd, hr, hc, implies_true, and_self]

/-- R147, R148, for as long as the run lasts, by induction on the ticks: a tick enters no run, so a run
at the end has lasted from the start. -/
theorem runTicks_startDuty (levels : List Bool) {s : State} (hc : s.cfg.wfRamp)
    (hs : s.event = eventCode .button1Pressed → rampStarted s) :
    ∃ t, runTicks levels s = .next t ∧ (t.event = eventCode .button1Pressed →
      s.event = eventCode .button1Pressed ∧ t.motorDuty.toNat = startDuty s levels.length) := by
  induction levels generalizing s with
  | nil =>
    exact ⟨s, runTicks_nil s, fun he => ⟨he, (startDuty_zero (hs he)).symm⟩⟩
  | cons level levels ih =>
    obtain ⟨u, hu⟩ := exists_tick level s
    obtain ⟨-, hcfg, -⟩ := tick_frame hu
    have hbefore (he : u.event = eventCode .button1Pressed) : s.event = eventCode .button1Pressed :=
      event_before_tick hu he (by decide)
    have hstep (he : u.event = eventCode .button1Pressed) :
        rampStarted u ∧ startDuty u levels.length = startDuty s (levels.length + 1) := by
      rw [(tick_startDuty hu he).1, (tick_startDuty hu he).2]
      exact rampUp_startDuty hc (hs (hbefore he)) _
    obtain ⟨t, hrun, ht⟩ := ih (hcfg ▸ hc) fun he => (hstep he).1
    refine ⟨t, (runTicks_cons hu levels).trans hrun, fun het => ?_⟩
    obtain ⟨heu, hduty⟩ := ht het
    exact ⟨hbefore heu, hduty.trans (hstep heu).2⟩

/-- Settles O48: the first tick is the start jump, the others climb from `MOTOR_START`. -/
theorem startRampClosedForm : Obligations.StartRampClosedForm := by
  intro levels s hwf _ hr hd hne
  obtain ⟨-, hc, -⟩ := hwf
  obtain ⟨level, levels, rfl⟩ := List.exists_cons_of_ne_nil hne
  obtain ⟨u, hu⟩ := exists_tick level s
  obtain ⟨-, hcfg, -⟩ := tick_frame hu
  obtain ⟨hstarted, hduty⟩ := rampUp_startDuty_of_cleared hc hd hr levels.length
  obtain ⟨t, hrun, ht⟩ := runTicks_startDuty levels (hcfg ▸ hc) fun he =>
    (tick_startDuty hu he).1.mpr hstarted
  refine ⟨t, (runTicks_cons hu levels).trans hrun, fun het => ?_⟩
  obtain ⟨heu, hlast⟩ := ht het
  rw [hlast, (tick_startDuty hu heu).2, hduty]
  rfl

end Sys2Proof.Machine

/-! Proofs about the Sound State Selector (spec/43_sound_state_selector.md): the phase function (R162 to R165),
the tables (R166), and the count from which a tick goes on and the one it leaves (R161, R183). -/

namespace Sys2Proof.Machine

/-! ## The phase function -/

/-- R162: the count is in one of the two bell windows. -/
def inBellWindow (c : Config) (n : Nat) : Prop :=
  (c.r1Lo ≤ n ∧ n < c.r1Hi) ∨ (c.r2Lo ≤ n ∧ n < c.r2Hi)

/-- R162: the count is in the whistle window. -/
def inWhistleWindow (c : Config) (n : Nat) : Prop := c.wLo ≤ n ∧ n < c.wHi

/-- The schedule of a run, in the order of its tests (R162). -/
theorem phase_button1Pressed_cases (c : Config) (n : Nat) :
    (n < c.tStarted ∧ phase c (eventCode .button1Pressed) n = .starting) ∨
    (c.tStarted ≤ n ∧ inBellWindow c n ∧ phase c (eventCode .button1Pressed) n = .ringing) ∨
    (c.tStarted ≤ n ∧ ¬ inBellWindow c n ∧ inWhistleWindow c n ∧
      phase c (eventCode .button1Pressed) n = .whistling) ∨
    (c.tStarted ≤ n ∧ ¬ inBellWindow c n ∧ ¬ inWhistleWindow c n ∧
      phase c (eventCode .button1Pressed) n = .running) := by
  simp only [phase, eventOf_eventCode]
  split
  · exact .inl ⟨‹_›, rfl⟩
  · have hstarted : c.tStarted ≤ n := Nat.le_of_not_lt ‹_›
    split
    · exact .inr (.inl ⟨hstarted, ‹_›, rfl⟩)
    · split
      · exact .inr (.inr (.inl ⟨hstarted, ‹_›, ‹_›, rfl⟩))
      · exact .inr (.inr (.inr ⟨hstarted, ‹_›, ‹_›, rfl⟩))

/-- R162, phase by phase: each holds in its own case of the schedule and in no other. -/
theorem phase_button1Pressed_iff (c : Config) (n : Nat) :
    (phase c (eventCode .button1Pressed) n = .starting ↔ n < c.tStarted) ∧
    (phase c (eventCode .button1Pressed) n = .ringing ↔ c.tStarted ≤ n ∧ inBellWindow c n) ∧
    (phase c (eventCode .button1Pressed) n = .whistling ↔
      c.tStarted ≤ n ∧ ¬ inBellWindow c n ∧ inWhistleWindow c n) ∧
    (phase c (eventCode .button1Pressed) n = .running ↔
      c.tStarted ≤ n ∧ ¬ inBellWindow c n ∧ ¬ inWhistleWindow c n) := by
  rcases phase_button1Pressed_cases c n with ⟨hn, hp⟩ | ⟨hn, hb, hp⟩ | ⟨hn, hb, hw, hp⟩ |
    ⟨hn, hb, hw, hp⟩
  · simp [hp, hn, Nat.not_le.mpr hn]
  · simp [hp, hn, hb]
  · simp [hp, hn, hb, hw]
  · simp [hp, hn, hb, hw]

/-- R6 (d), (e): the windows come after Starting, and the whistle window meets no bell window. -/
theorem wf_windows_apart {c : Config} (hwf : c.WF) {n : Nat} :
    (inBellWindow c n → c.tStarted ≤ n) ∧
    (inWhistleWindow c n → c.tStarted ≤ n ∧ ¬ inBellWindow c n) := by
  obtain ⟨-, -, -, ⟨⟨hr1, -⟩, ⟨hw, -⟩, ⟨hr2, -⟩⟩, ⟨hr1w, -, hwr2⟩, -⟩ := hwf
  unfold inBellWindow inWhistleWindow
  omega

/-- R163. -/
theorem phase_button1Released (c : Config) (n : Nat) :
    phase c (eventCode .button1Released) n = if n < c.tStopped then .stopping else .none := by
  simp only [phase, eventOf_eventCode]

/-- R165: no other event has a phase. -/
theorem phase_of_silent_event {e : BitVec 3} (hrun : e ≠ eventCode .button1Pressed)
    (hstop : e ≠ eventCode .button1Released) (hwhistle : e ≠ eventCode .button2Pressed) (c : Config)
    (n : Nat) : phase c e n = .none := by
  rcases event_cases e with rfl | rfl | rfl | rfl | rfl | rfl | hres
  · exact phase_none c n
  · simp only [phase, eventOf_eventCode]
  · exact absurd rfl hrun
  · exact absurd rfl hstop
  · exact absurd rfl hwhistle
  · simp only [phase, eventOf_eventCode]
  · exact phase_of_reserved hres c n

/-- Settles O35: in a well-formed configuration the windows are apart, so the tests before a window's own
fail within it. -/
theorem phaseFollowsSchedule : Obligations.PhaseFollowsSchedule := by
  intro c n
  obtain ⟨hstarting, hringing, hwhistling, hrunning⟩ := phase_button1Pressed_iff c n
  refine ⟨hstarting, hringing, ?_, ?_, fun hwf => ⟨fun hw => ?_, fun hb => ?_⟩, fun hn => ?_,
    fun hn => ?_, phase_button2Pressed c n, fun e hrun hstop hwhistle =>
      phase_of_silent_event hrun hstop hwhistle c n⟩
  · rw [hwhistling, inBellWindow, not_or, and_assoc, inWhistleWindow]
  · rw [hrunning, inBellWindow, not_or, and_assoc, inWhistleWindow]
  · obtain ⟨hstarted, hbell⟩ := (wf_windows_apart hwf).2 hw
    exact hwhistling.mpr ⟨hstarted, hbell, hw⟩
  · exact hringing.mpr ⟨(wf_windows_apart hwf).1 hb, hb⟩
  · rw [phase_button1Released, if_pos hn]
  · rw [phase_button1Released, if_neg (Nat.not_lt.mpr hn)]

/-! ## The tables -/

/-- Settles O36: the table of a phase is a constructor, and its bytes are a field of `cfg` (R60). -/
theorem tableFollowsPhase : Obligations.TableFollowsPhase :=
  fun _ => ⟨rfl, rfl, rfl, rfl, rfl, rfl, rfl, rfl⟩

/-! ## The count of a tick -/

/-- R161: the two cases of the rewind determine the count a tick goes on from. -/
theorem eq_countAfterRewind_toNat {c : Config} {e : BitVec 3} {k : Word} {n : Nat}
    (hrewound : e = eventCode .button1Pressed → c.r2Hi ≤ k.toNat → n = min c.tStarted wordMax)
    (hkept : e ≠ eventCode .button1Pressed ∨ k.toNat < c.r2Hi → n = k.toNat) :
    n = (countAfterRewind c e k).toNat := by
  by_cases h : e = eventCode .button1Pressed ∧ c.r2Hi ≤ k.toNat
  · rw [countAfterRewind, if_pos h, satW_toNat, hrewound h.1 h.2]
  · rw [countAfterRewind, if_neg h]
    exact hkept ((not_and_or.mp h).imp_right Nat.lt_of_not_le)

/-- R131: the engine of a tick acts, in the phase of the event that the tick leaves, on a state with the
rewound count, and with the cursor, the pause, the fade and the amplitude of the old state. -/
theorem tick_playback {level : Bool} {s t : State} (h : tick level s = some t) :
    ∃ c w d r u, playback (tickPhase s t.event) { s with
        event := t.event, sensorCount := c, windowCount := w, motorDuty := d, rampCount := r
        soundCount := countAfterRewind s.cfg t.event s.soundCount } = some u ∧
      t = writeOutputs u := by
  obtain ⟨u, hu, rfl⟩ := tick_cases h
  obtain ⟨e, c, w, d, r, -, -, hfront, -⟩ := tickFront_cases level s
  rw [hfront] at hu
  obtain rfl : u.event = e := by
    obtain ⟨_, _, _, _, _, _, rfl⟩ := playback_frame hu
    rfl
  exact ⟨c, w, d, r, u, hu, rfl⟩

/-- R175, R183: every branch of the engine but the end of a pass keeps the count. -/
theorem playback_soundCount_of_no_end {p : Phase} {s u : State} (h : playback p s = some u)
    (hno : p = .none ∨ s.delay ≠ 0#16 ∨
      ∀ tb, tableOf p = some tb → s.idx.toNat < tableLen s.cfg tb) :
    u.soundCount = s.soundCount := by
  rcases playback_cases h with ⟨-, rfl⟩ | ⟨tb, -, -, rfl⟩ | ⟨tb, htb, hdelay, hplay⟩
  · rfl
  · rfl
  · have hlt : s.idx.toNat < tableLen s.cfg tb := by
      rcases hno with rfl | hpause | hinside
      · cases htb
      · exact absurd hdelay hpause
      · exact hinside tb htb
    rcases playTable_cases hplay with ⟨hend, -⟩ | ⟨-, -, -, b, -, rfl⟩ | ⟨-, -, b, -, rfl⟩ |
      ⟨-, -, b, -, rfl⟩
    · exact absurd hlt (Nat.not_lt.mpr hend)
    · exact fadeInTick_soundCount b s
    · exact fadeOutTick_soundCount b _ s
    · rfl

/-- Settles O37: `n` is the count that the rewind leaves, and the engine keeps it unless it ends a
pass. -/
theorem tickRewindsSchedule : Obligations.TickRewindsSchedule := by
  intro level s
  obtain ⟨t, ht⟩ := exists_tick level s
  refine ⟨t, exec_tick_of_tick ht, fun n hrewound hkept => ?_⟩
  obtain rfl := eq_countAfterRewind_toNat hrewound hkept
  obtain ⟨c, w, d, r, u, hu, htu⟩ := tick_playback ht
  have hcount : t.soundCount = u.soundCount := by
    rw [htu, writeOutputs_soundCount]
  rw [hcount]
  refine ⟨fun hno => ?_, fun tb htb hdelay hend => ?_⟩
  · rw [playback_soundCount_of_no_end hu hno]
  · obtain rfl := Option.some.inj (hu.symm.trans (playback_of_end htb hdelay hend))
    exact satW_toNat _

end Sys2Proof.Machine

/-! Proofs about the playback and envelope engine (spec/44_playback_envelope.md): what one tick of each of its
six branches leaves (R175 to R188), the two fades over many ticks (R185, R186), and the length of a pass
(R190). -/

namespace Sys2Proof.Machine

/-! ## The engine of a tick -/

/-- What the engine of a tick from `s` finds (R131): the watch left the event `e` and the counters `c` and
`w`, the ramp the duty `d` and the prescaler `r`, and the rewind the count of that event. -/
def engineInput (s : State) (e : BitVec 3) (c w : Word) (d : Byte) (r : Word) : State :=
  { s with
    event := e, sensorCount := c, windowCount := w, motorDuty := d, rampCount := r
    soundCount := countAfterRewind s.cfg e s.soundCount }

/-- R130, R131: a tick is performed, and leaves what its engine does in the phase of the event `e` that its
watch left. -/
theorem exec_tick_engine (level : Bool) (s : State) :
    ∃ e c w d r u, exec (.tick level) s = .next (writeOutputs u) ∧ u.event = e ∧
      playback (tickPhase s e) (engineInput s e c w d r) = some u := by
  obtain ⟨t, ht⟩ := exists_tick level s
  obtain ⟨c, w, d, r, u, hu, rfl⟩ := tick_playback ht
  exact ⟨u.event, c, w, d, r, u, exec_tick_of_tick ht, rfl, hu⟩

/-! ## The branches without a table read -/

/-- R176. -/
theorem playback_none (s : State) : playback .none s = some (silence s) := by
  rfl

/-- R162: a run always has a phase, so the rewind, which acts in a run only, keeps the count of a tick in
phase None. -/
theorem countAfterRewind_of_phase_none {s : State} {e : BitVec 3} (h : tickPhase s e = .none) :
    countAfterRewind s.cfg e s.soundCount = s.soundCount := by
  refine countAfterRewind_of_ne ?_ _
  rintro rfl
  unfold tickPhase at h
  rcases phase_button1Pressed_cases s.cfg
    (countAfterRewind s.cfg (eventCode .button1Pressed) s.soundCount).toNat with
    ⟨-, hp⟩ | ⟨-, -, hp⟩ | ⟨-, -, -, hp⟩ | ⟨-, -, -, hp⟩ <;> rw [hp] at h <;> cases h

/-- Settles O38. -/
theorem tickInPhaseNoneIsSilent : Obligations.TickInPhaseNoneIsSilent := by
  intro level s
  obtain ⟨e, c, w, d, r, u, hx, he, hu⟩ := exec_tick_engine level s
  refine ⟨_, hx, ?_⟩
  rw [writeOutputs_event, he]
  intro hp
  rw [hp] at hu
  obtain rfl := Option.some.inj (hu.symm.trans (playback_none _))
  exact ⟨rfl, rfl, rfl, rfl, countAfterRewind_of_phase_none hp, rfl⟩

/-- R166: every phase but None has a table. -/
theorem exists_tableOf {p : Phase} (h : p ≠ .none) : ∃ tb, tableOf p = some tb := by
  cases p with
  | none => exact absurd rfl h
  | _ => exact ⟨_, rfl⟩

/-- Settles O39. -/
theorem tickCountsPauseDown : Obligations.TickCountsPauseDown := by
  intro level s
  obtain ⟨e, c, w, d, r, u, hx, he, hu⟩ := exec_tick_engine level s
  refine ⟨_, hx, ?_⟩
  rw [writeOutputs_event, he]
  intro hp hd
  obtain ⟨tb, htb⟩ := exists_tableOf hp
  obtain rfl := Option.some.inj (hu.symm.trans (playback_of_pause htb hd))
  exact ⟨word_pred_toNat hd, rfl, rfl, rfl, rfl, rfl⟩

/-- R179 to R182: the pause of each phase that ends passes. -/
theorem passDelay_cases (c : Config) (p : Phase) (n : Nat) :
    (p = .starting → (passDelay c p n).toNat = min (c.delayMax - n * c.delayInc) wordMax) ∧
    (p = .running → (passDelay c p n).toNat = min c.delayMin wordMax) ∧
    (p = .stopping → (passDelay c p n).toNat = min (c.delayMin + n * c.delayInc) wordMax) ∧
    (p = .ringing ∨ p = .whistling → passDelay c p n = 0#16) := by
  refine ⟨fun h => ?_, fun h => ?_, fun h => ?_, fun h => ?_⟩
  · rw [h, passDelay, satW_toNat]
  · rw [h, passDelay, satW_toNat]
  · rw [h, passDelay, satW_toNat]
  · rcases h with rfl | rfl <;> rfl

/-- Settles O40. -/
theorem tickEndsPass : Obligations.TickEndsPass := by
  intro level s
  obtain ⟨e, c, w, d, r, u, hx, he, hu⟩ := exec_tick_engine level s
  refine ⟨_, hx, ?_⟩
  rw [writeOutputs_event, he]
  rintro tb n htb hd hend rfl
  obtain rfl := Option.some.inj (hu.symm.trans (playback_of_end htb hd hend))
  exact ⟨rfl, rfl, rfl, satW_toNat _, rfl, passDelay_cases s.cfg _ _⟩

/-! ## The three playing branches -/

/-- The value of an incremented fade: the next number, or after 255 the free value (log 7). -/
theorem eq_incFade_fade {s : State} {v : Byte} (hsucc : s.fade ≠ 255#8 → v.toNat = s.fade.toNat + 1)
    (hfree : s.fade = 255#8 → v = Config.freeFade s.freeCount) : v = (incFade s).fade := by
  by_cases h : s.fade = 255#8
  · rw [incFade, if_pos h, hfree h]
  · have hlt : s.fade.toNat ≤ 254 := by bv_omega
    rw [incFade_of_lt hlt]
    exact BitVec.eq_of_toNat_eq ((hsucc h).trans (fade_succ_toNat hlt).symm)

/-- R184: where a pass is faded in, by the phase or by the count. -/
theorem fadeCond_iff {p : Phase} {tb : TableId} (htb : tableOf p = some tb) (c : Config) (n : Nat) :
    fadeCond c p n = true ↔
      p = .starting ∨ p = .running ∨ p = .stopping ∨ n = c.r1Lo ∨ n = c.wLo ∨ n = c.r2Lo := by
  cases p with
  | none => cases htb
  | _ => simp [fadeCond, phaseCode, or_assoc]

/-- R184: where the fade-in does not apply: past index 0, and in a bell or whistle pass that is not the
first of a window. -/
theorem not_fadeIn {p : Phase} {tb : TableId} (htb : tableOf p = some tb) {c : Config} {i : Word}
    {n : Nat}
    (h : i ≠ 0#16 ∨ ((p = .ringing ∨ p = .whistling) ∧ n ≠ c.r1Lo ∧ n ≠ c.wLo ∧ n ≠ c.r2Lo)) :
    ¬(i = 0#16 ∧ fadeCond c p n = true) := by
  rintro ⟨hi, hfade⟩
  obtain ⟨hp, h1, hw, h2⟩ := h.resolve_left (not_not_intro hi)
  rcases hp with rfl | rfl <;> simp [fadeCond_iff htb, h1, hw, h2] at hfade

/-- R185: the first entry under the fade condition. -/
theorem playback_of_fadeIn {p : Phase} {tb : TableId} {s : State} {b : Byte} (htb : tableOf p = some tb)
    (hd : s.delay = 0#16) (hidx : s.idx = 0#16) (hfade : fadeCond s.cfg p s.soundCount.toNat = true)
    (hb : memRead s.cfg tb 0 = some b) : playback p s = some (fadeInTick b s) := by
  have hlt : s.idx.toNat < tableLen s.cfg tb := by
    rw [hidx]
    exact (memRead_isSome s.cfg tb 0).mp (hb ▸ rfl)
  rw [playback_of_no_pause htb hd, playTable, if_neg (Nat.not_le.mpr hlt), if_pos ⟨hidx, hfade⟩, hb,
    Option.map_some]

section Fade

variable {b : Byte} {s v : State}

/-- R185: the last tick of a fade-in. -/
theorem fadeInTick_of_le (hinc : incFade s = v) (h : b.toNat ≤ v.fade.toNat) :
    fadeInTick b s = { v with amp := v.fade, idx := 1#16, fade := 0#8 } := by
  rw [fadeInTick, hinc, if_pos h]

/-- R185: a fade-in that goes on. -/
theorem fadeInTick_of_lt (hinc : incFade s = v) (h : v.fade.toNat < b.toNat) :
    fadeInTick b s = { v with amp := v.fade } := by
  rw [fadeInTick, hinc, if_neg (Nat.not_le.mpr h)]

/-- R186: the last tick of a fade-out. -/
theorem fadeOutTick_of_le (hinc : incFade s = v) (h : b.toNat ≤ v.fade.toNat) (len : Nat) :
    fadeOutTick b len s =
      { v with amp := BitVec.ofNat 8 (b.toNat - v.fade.toNat), idx := satW len, fade := 0#8 } := by
  rw [fadeOutTick, hinc, if_pos h]

/-- R186: a fade-out that goes on. -/
theorem fadeOutTick_of_lt (hinc : incFade s = v) (h : v.fade.toNat < b.toNat) (len : Nat) :
    fadeOutTick b len s = { v with amp := BitVec.ofNat 8 (b.toNat - v.fade.toNat) } := by
  rw [fadeOutTick, hinc, if_neg (Nat.not_le.mpr h)]

end Fade

@[simp] theorem incFade_idx (s : State) : (incFade s).idx = s.idx := by
  obtain ⟨v, n, h⟩ := incFade_frame s
  rw [h]

theorem fadeInTick_amp (b : Byte) (s : State) : (fadeInTick b s).amp = (incFade s).fade := by
  rcases Nat.lt_or_ge (incFade s).fade.toNat b.toNat with h | h
  · rw [fadeInTick_of_lt rfl h]
  · rw [fadeInTick_of_le rfl h]

theorem fadeInTick_delay (b : Byte) (s : State) : (fadeInTick b s).delay = s.delay := by
  obtain ⟨i, f, a, n, h⟩ := fadeInTick_frame b s
  rw [h]

theorem fadeOutTick_delay (b : Byte) (len : Nat) (s : State) :
    (fadeOutTick b len s).delay = s.delay := by
  obtain ⟨i, f, a, n, h⟩ := fadeOutTick_frame b len s
  rw [h]

/-- A difference from a byte is a byte. -/
theorem byte_sub_toNat (b : Byte) (n : Nat) : (BitVec.ofNat 8 (b.toNat - n)).toNat = b.toNat - n :=
  Nat.mod_eq_of_lt ((Nat.sub_le _ _).trans_lt b.isLt)

/-- R186: the amplitude of a fade-out tick, from any fade. -/
theorem fadeOutTick_amp_incFade (b : Byte) (len : Nat) (s : State) :
    (fadeOutTick b len s).amp.toNat = b.toNat - (incFade s).fade.toNat := by
  rcases Nat.lt_or_ge (incFade s).fade.toNat b.toNat with h | h
  · rw [fadeOutTick_of_lt rfl h, byte_sub_toNat]
  · rw [fadeOutTick_of_le rfl h, byte_sub_toNat]

/-- Settles O41. -/
theorem tickFadesIn : Obligations.TickFadesIn := by
  intro level s
  obtain ⟨e, c, w, d, r, u, hx, he, hu⟩ := exec_tick_engine level s
  refine ⟨_, hx, ?_⟩
  rw [writeOutputs_event, he]
  rintro tb n b v htb hd hidx hb rfl hcond hsucc hfree
  obtain rfl := eq_incFade_fade (s := engineInput s e c w d r) hsucc hfree
  have hfade := (fadeCond_iff htb s.cfg _).mpr hcond
  obtain rfl := Option.some.inj (hu.symm.trans (playback_of_fadeIn htb hd hidx hfade hb))
  refine ⟨fadeInTick_amp b _, congrArg BitVec.toNat (fadeInTick_soundCount b _),
    (fadeInTick_delay b _).trans hd, fun hle => ?_, fun hlt => ?_⟩
  · rw [fadeInTick_of_le rfl hle]
    exact ⟨rfl, rfl⟩
  · rw [fadeInTick_of_lt rfl hlt]
    exact ⟨(incFade_idx _).trans hidx, rfl⟩

/-- Settles O42. -/
theorem tickFadesOut : Obligations.TickFadesOut := by
  intro level s
  obtain ⟨e, c, w, d, r, u, hx, he, hu⟩ := exec_tick_engine level s
  refine ⟨_, hx, ?_⟩
  rw [writeOutputs_event, he]
  rintro tb n b v htb hd hidx hb rfl hcond hsucc hfree
  obtain rfl := eq_incFade_fade (s := engineInput s e c w d r) hsucc hfree
  obtain rfl := Option.some.inj (hu.symm.trans (playback_of_last htb hd hidx (not_fadeIn htb hcond) hb))
  refine ⟨fadeOutTick_amp_incFade b _ _, congrArg BitVec.toNat (fadeOutTick_soundCount b _ _),
    (fadeOutTick_delay b _ _).trans hd, fun hle => ?_, fun hlt => ?_⟩
  · rw [fadeOutTick_of_le rfl hle]
    exact ⟨satW_toNat _, rfl⟩
  · rw [fadeOutTick_of_lt rfl hlt]
    exact ⟨incFade_idx _, rfl⟩

/-- Settles O43. -/
theorem tickPlaysByte : Obligations.TickPlaysByte := by
  intro level s
  obtain ⟨e, c, w, d, r, u, hx, he, hu⟩ := exec_tick_engine level s
  refine ⟨_, hx, ?_⟩
  rw [writeOutputs_event, he]
  rintro tb n b htb hd hidx hb rfl hcond
  obtain rfl := Option.some.inj (hu.symm.trans (playback_of_inner htb hd hidx (not_fadeIn htb hcond) hb))
  exact ⟨rfl, satW_toNat_of_le, rfl, hd, rfl, rfl⟩

/-! ## Many ticks of the engine -/

theorem playMany_add (p : Phase) (j k : Nat) (s : State) :
    playMany p (j + k) s = (playMany p j s).bind (playMany p k) := by
  induction j generalizing s with
  | zero => rw [Nat.zero_add, playMany, Option.bind_some]
  | succ j ih =>
    rw [Nat.succ_add, playMany, playMany, Option.bind_assoc]
    exact congrArg _ (funext ih)

theorem playMany_add_of {p : Phase} {j : Nat} {s t : State} (h : playMany p j s = some t) (k : Nat) :
    playMany p (j + k) s = playMany p k t := by
  rw [playMany_add, h, Option.bind_some]

theorem playMany_one (p : Phase) (s : State) : playMany p 1 s = playback p s :=
  Option.bind_fun_some _

/-- One tick more. -/
theorem playMany_succ_of {p : Phase} {k : Nat} {s t : State} (h : playMany p k s = some t) :
    playMany p (k + 1) s = playback p t := by
  rw [playMany_add_of h, playMany_one]

/-- R177: `j` ticks of a pause. -/
theorem playMany_pause {p : Phase} {tb : TableId} (htb : tableOf p = some tb) {s : State} {j : Nat}
    (hj : j ≤ s.delay.toNat) :
    ∃ d : Word, d.toNat + j = s.delay.toNat ∧ playMany p j s = some { s with delay := d } := by
  induction j with
  | zero => exact ⟨s.delay, rfl, rfl⟩
  | succ j ih =>
    obtain ⟨d, hd, hrun⟩ := ih (Nat.le_of_succ_le hj)
    have hpos : 0 < d.toNat := by omega
    have hpred := word_pred_toNat hpos
    refine ⟨d - 1#16, by omega, ?_⟩
    rw [playMany_succ_of hrun]
    exact playback_of_pause htb hpos

/-! ## The two fades -/

/-- The state `s` with a fade under way: the fade counter is at `f`, and `a` is the amplitude. -/
def fading (s : State) (f a : Byte) : State := { s with fade := f, amp := a }

/-- R185, R186: a fade towards the byte `b`, whose ticks before the last write only the fade counter and the
amplitude, has counted `k` ticks after `k` ticks. -/
theorem playMany_fading {p : Phase} {s : State} {b : Byte} (hf : s.fade = 0#8)
    (hon : ∀ f a : Byte, f.toNat + 1 < b.toNat →
      ∃ a', playback p (fading s f a) = some (fading s (f + 1#8) a'))
    {k : Nat} (hk : k < b.toNat) :
    ∃ f a : Byte, f.toNat = k ∧ playMany p k s = some (fading s f a) := by
  induction k with
  | zero => exact ⟨0#8, s.amp, rfl, by rw [← hf]; rfl⟩
  | succ k ih =>
    obtain ⟨f, a, rfl, hrun⟩ := ih (Nat.lt_of_succ_lt hk)
    obtain ⟨a', ha'⟩ := hon f a hk
    have hb := b.isLt
    exact ⟨f + 1#8, a', fade_succ_toNat (by omega), by rw [playMany_succ_of hrun, ha']⟩

/-- A fade below a byte is counted on by one (R27). -/
theorem incFade_fading {b f : Byte} (h : f.toNat < b.toNat) (s : State) (a : Byte) :
    incFade (fading s f a) = fading s (f + 1#8) a ∧ (f + 1#8).toNat = f.toNat + 1 := by
  have hbound : fadeBounded (fading s f a) := fadeBounded_of_lt h
  exact ⟨incFade_of_lt hbound, fade_succ_toNat hbound⟩

/-- The state `s` once the engine has done with an entry: the cursor has gone on to `i`, no fade is under
way, and `a` is the amplitude. -/
def playedTo (s : State) (i : Word) (a : Byte) : State := { s with idx := i, fade := 0#8, amp := a }

section FadeIn

variable {p : Phase} {tb : TableId} {b f : Byte} {s : State} (htb : tableOf p = some tb)
  (hd : s.delay = 0#16) (hidx : s.idx = 0#16) (hfade : fadeCond s.cfg p s.soundCount.toNat = true)
  (hb : memRead s.cfg tb 0 = some b)

include htb hd hidx hfade hb

/-- R185: a fade-in tick before the last. -/
theorem playback_fadeIn_on (h : f.toNat + 1 < b.toNat) (a : Byte) :
    playback p (fading s f a) = some (fading s (f + 1#8) (f + 1#8)) := by
  obtain ⟨hinc, hsucc⟩ := incFade_fading (Nat.lt_of_succ_lt h) s a
  rw [playback_of_fadeIn (s := fading s f a) htb hd hidx hfade hb,
    fadeInTick_of_lt hinc (hsucc.trans_lt h)]
  rfl

/-- R185: the last fade-in tick plays the byte itself. -/
theorem playback_fadeIn_last (h : f.toNat + 1 = b.toNat) (a : Byte) :
    playback p (fading s f a) = some (playedTo s 1#16 b) := by
  obtain ⟨hinc, hsucc⟩ := incFade_fading (Nat.lt_of_succ_le h.le) s a
  obtain rfl : f + 1#8 = b := BitVec.eq_of_toNat_eq (hsucc.trans h)
  rw [playback_of_fadeIn (s := fading s f a) htb hd hidx hfade hb,
    fadeInTick_of_le hinc (hsucc.trans h).ge]
  rfl

end FadeIn

section FadeOut

variable {p : Phase} {tb : TableId} {b f : Byte} {s : State} (htb : tableOf p = some tb)
  (hd : s.delay = 0#16) (hidx : s.idx ≠ 0#16) (hlast : s.idx.toNat + 1 = tableLen s.cfg tb)
  (hb : memRead s.cfg tb s.idx.toNat = some b)

include htb hd hidx hlast hb

/-- R186: a fade-out tick before the last. -/
theorem playback_fadeOut_on (h : f.toNat + 1 < b.toNat) (a : Byte) :
    playback p (fading s f a) =
      some (fading s (f + 1#8) (BitVec.ofNat 8 (b.toNat - (f.toNat + 1)))) := by
  obtain ⟨hinc, hsucc⟩ := incFade_fading (Nat.lt_of_succ_lt h) s a
  rw [playback_of_last (s := fading s f a) htb hd hlast (not_fadeIn htb (.inl hidx)) hb,
    fadeOutTick_of_lt hinc (hsucc.trans_lt h), ← hsucc]
  rfl

/-- R186: the last fade-out tick is silent. -/
theorem playback_fadeOut_last (h : f.toNat + 1 = b.toNat) (a : Byte) :
    playback p (fading s f a) = some (playedTo s (satW (tableLen s.cfg tb)) 0#8) := by
  obtain ⟨hinc, hsucc⟩ := incFade_fading (Nat.lt_of_succ_le h.le) s a
  have hsilent : b.toNat - (fading s (f + 1#8) a).fade.toNat = 0 :=
    Nat.sub_eq_zero_of_le (hsucc.trans h).ge
  rw [playback_of_last (s := fading s f a) htb hd hlast (not_fadeIn htb (.inl hidx)) hb,
    fadeOutTick_of_le hinc (hsucc.trans h).ge, hsilent]
  rfl

end FadeOut

/-- Settles O50: all but the last of the `k` ticks count the fade counter up, and the last one ends the
fade exactly if `k` is the byte. -/
theorem fadeInCountsUp : Obligations.FadeInCountsUp := by
  intro p tb b k s htb hb hd hidx hf hfade hpos hk
  obtain ⟨j, rfl⟩ := Nat.exists_eq_add_of_le' hpos
  obtain ⟨f, a, rfl, hrun⟩ := playMany_fading hf
    (fun f a h => ⟨_, playback_fadeIn_on htb hd hidx hfade hb h a⟩) hk
  obtain ⟨-, hsucc⟩ := incFade_fading hk s a
  rw [playMany_succ_of hrun]
  rcases hk.lt_or_eq with hlt | heq
  · exact ⟨_, playback_fadeIn_on htb hd hidx hfade hb hlt a, hsucc, rfl, hd, rfl,
      fun _ => ⟨hidx, hsucc⟩, fun h => absurd h hlt.ne⟩
  · exact ⟨_, playback_fadeIn_last htb hd hidx hfade hb heq a, heq.symm, rfl, hd, rfl,
      fun h => absurd heq h.ne, fun _ => ⟨rfl, rfl⟩⟩

section WfTable

variable {c : Config} {tb : TableId} (hwf : wfTable (tableBytes c tb))

include hwf

/-- R6 (h): the length of a well-formed table. -/
theorem wfTable_tableLen : 2 ≤ tableLen c tb ∧ tableLen c tb ≤ wordMax := by
  obtain ⟨hmin, hmax, -⟩ := hwf
  exact ⟨hmin, hmax⟩

/-- R6 (h), R63: every byte of a well-formed table is at least 1. -/
theorem wfTable_memRead {i : Nat} {b : Byte} (hb : memRead c tb i = some b) : 1 ≤ b.toNat := by
  obtain ⟨-, -, hbytes⟩ := hwf
  exact hbytes b (List.mem_of_getElem? hb)

/-- The last entry of a well-formed table is not its first. -/
theorem idx_ne_zero_of_last {i : Word} (hlast : i.toNat + 1 = tableLen c tb) : i ≠ 0#16 := by
  obtain ⟨hmin, -⟩ := wfTable_tableLen hwf
  rintro rfl
  exact absurd (hlast ▸ hmin : 2 ≤ 0 + 1) (by decide)

end WfTable

/-- Settles O51, as O50. -/
theorem fadeOutCountsDown : Obligations.FadeOutCountsDown := by
  intro p tb b k s htb hwf hlast hb hd hf hpos hk
  have hidx := idx_ne_zero_of_last hwf hlast
  obtain ⟨-, hlen⟩ := wfTable_tableLen hwf
  obtain ⟨j, rfl⟩ := Nat.exists_eq_add_of_le' hpos
  obtain ⟨f, a, rfl, hrun⟩ := playMany_fading hf
    (fun f a h => ⟨_, playback_fadeOut_on htb hd hidx hlast hb h a⟩) hk
  obtain ⟨-, hsucc⟩ := incFade_fading hk s a
  rw [playMany_succ_of hrun]
  rcases hk.lt_or_eq with hlt | heq
  · exact ⟨_, playback_fadeOut_on htb hd hidx hlast hb hlt a, byte_sub_toNat b _, rfl, hd, rfl,
      fun _ => ⟨rfl, hsucc⟩, fun h => absurd h hlt.ne⟩
  · exact ⟨_, playback_fadeOut_last htb hd hidx hlast hb heq a, (Nat.sub_eq_zero_of_le heq.ge).symm, rfl,
      hd, rfl, fun h => absurd heq h.ne, fun _ => ⟨satW_toNat_of_le hlen, rfl⟩⟩

/-! ## A pass -/

/-- R190: `k` engine ticks lead from `s` to `t`, and each of them begins at an entry of the table and with
the count of `s`. -/
structure Plays (p : Phase) (tb : TableId) (k : Nat) (s t : State) : Prop where
  run : playMany p k s = some t
  inside : ∀ j < k, ∃ v, playMany p j s = some v ∧ v.idx.toNat < tableLen s.cfg tb ∧
    v.soundCount = s.soundCount

section Plays

variable {p : Phase} {tb : TableId} {s t u : State}

theorem Plays.zero (p : Phase) (tb : TableId) (s : State) : Plays p tb 0 s s :=
  ⟨rfl, fun _ h => absurd h (Nat.not_lt_zero _)⟩

theorem Plays.one (hidx : s.idx.toNat < tableLen s.cfg tb) (h : playback p s = some t) :
    Plays p tb 1 s t := by
  refine ⟨(playMany_one p s).trans h, fun j hj => ?_⟩
  obtain rfl := Nat.lt_one_iff.mp hj
  exact ⟨s, rfl, hidx, rfl⟩

theorem Plays.trans {j k : Nat} (hst : Plays p tb j s t) (htu : Plays p tb k t u)
    (hcfg : t.cfg = s.cfg) (hcount : t.soundCount = s.soundCount) : Plays p tb (j + k) s u := by
  refine ⟨(playMany_add_of hst.run k).trans htu.run, fun i hi => ?_⟩
  rcases Nat.lt_or_ge i j with hij | hij
  · exact hst.inside i hij
  · obtain ⟨m, rfl⟩ := Nat.exists_eq_add_of_le hij
    rw [playMany_add_of hst.run, ← hcfg, ← hcount]
    exact htu.inside m (Nat.lt_of_add_lt_add_left hi)

/-- R185, R186: a fade towards the byte `b` takes `b` ticks, with the cursor at its entry until the last. -/
theorem Plays.of_fade {b : Byte} (hidx : s.idx.toNat < tableLen s.cfg tb) (hf : s.fade = 0#8)
    (hpos : 1 ≤ b.toNat)
    (hon : ∀ f a : Byte, f.toNat + 1 < b.toNat →
      ∃ a', playback p (fading s f a) = some (fading s (f + 1#8) a'))
    (hlast : ∀ f a : Byte, f.toNat + 1 = b.toNat → playback p (fading s f a) = some t) :
    Plays p tb b.toNat s t := by
  constructor
  · obtain ⟨k, hk⟩ := Nat.exists_eq_add_of_le' hpos
    obtain ⟨f, a, rfl, hrun⟩ := playMany_fading hf hon (Nat.lt_of_succ_le hk.ge)
    rw [hk, playMany_succ_of hrun]
    exact hlast f a hk.symm
  · intro j hj
    obtain ⟨f, a, -, hrun⟩ := playMany_fading hf hon hj
    exact ⟨_, hrun, hidx, rfl⟩

end Plays

section Pass

variable {p : Phase} {tb : TableId} {b : Byte} {s : State}

/-- R184, R185, R187: the first entry of a pass takes as many ticks as its byte if it is faded in, and one
if not. -/
theorem plays_first (htb : tableOf p = some tb) (hwf : wfTable (tableBytes s.cfg tb))
    (hb : memRead s.cfg tb 0 = some b) (hd : s.delay = 0#16) (hidx : s.idx = 0#16) (hf : s.fade = 0#8) :
    Plays p tb (if fadeCond s.cfg p s.soundCount.toNat = true then b.toNat else 1) s
      (playedTo s 1#16 b) := by
  obtain ⟨hmin, -⟩ := wfTable_tableLen hwf
  have hinner : s.idx.toNat + 1 < tableLen s.cfg tb := by
    rw [hidx]
    exact hmin
  by_cases hfade : fadeCond s.cfg p s.soundCount.toNat = true
  · rw [if_pos hfade]
    exact .of_fade (Nat.lt_of_succ_lt hinner) hf (wfTable_memRead hwf hb)
      (fun f a h => ⟨_, playback_fadeIn_on htb hd hidx hfade hb h a⟩)
      (fun f a h => playback_fadeIn_last htb hd hidx hfade hb h a)
  · rw [if_neg hfade]
    have hb' : memRead s.cfg tb s.idx.toNat = some b := by rwa [hidx]
    have hplay := playback_of_inner htb hd hinner (fun h => hfade h.2) hb'
    rw [normalTick, hidx] at hplay
    exact .one (Nat.lt_of_succ_lt hinner) hplay

/-- R187: the inner entries take a tick each. -/
theorem plays_inner (htb : tableOf p = some tb) (hlen : tableLen s.cfg tb ≤ wordMax) {k : Nat}
    (hd : s.delay = 0#16) (hpos : 1 ≤ s.idx.toNat) (hf : s.fade = 0#8)
    (hk : s.idx.toNat + k < tableLen s.cfg tb) :
    ∃ a, Plays p tb k s (playedTo s (satW (s.idx.toNat + k)) a) := by
  induction k generalizing s with
  | zero =>
    refine ⟨s.amp, ?_⟩
    rw [playedTo, Nat.add_zero, satW_self, ← hf]
    exact .zero p tb s
  | succ k ih =>
    have hinner : s.idx.toNat + 1 < tableLen s.cfg tb := by omega
    have hne : s.idx ≠ 0#16 := by
      intro h
      simp [h] at hpos
    obtain ⟨b, hb⟩ := memRead_of_lt (Nat.lt_of_succ_lt hinner)
    have hplay := playback_of_inner htb hd hinner (not_fadeIn htb (.inl hne)) hb
    have hnext : (normalTick b s).idx.toNat = s.idx.toNat + 1 :=
      satW_toNat_of_le (hinner.le.trans hlen)
    obtain ⟨a, hrest⟩ := ih (s := normalTick b s) hlen hd (by omega) rfl
      (show (normalTick b s).idx.toNat + k < tableLen s.cfg tb by omega)
    rw [hnext, Nat.add_right_comm, Nat.add_assoc] at hrest
    rw [Nat.add_comm k 1] at hrest ⊢
    exact ⟨a, (Plays.one (Nat.lt_of_succ_lt hinner) hplay).trans hrest rfl rfl⟩

/-- R186: the last entry takes as many ticks as its byte. -/
theorem plays_last (htb : tableOf p = some tb) (hwf : wfTable (tableBytes s.cfg tb))
    (hlast : s.idx.toNat + 1 = tableLen s.cfg tb) (hb : memRead s.cfg tb s.idx.toNat = some b)
    (hd : s.delay = 0#16) (hf : s.fade = 0#8) :
    Plays p tb b.toNat s (playedTo s (satW (tableLen s.cfg tb)) 0#8) := by
  have hidx := idx_ne_zero_of_last hwf hlast
  exact .of_fade (Nat.lt_of_succ_le hlast.le) hf (wfTable_memRead hwf hb)
    (fun f a h => ⟨_, playback_fadeOut_on htb hd hidx hlast hb h a⟩)
    (fun f a h => playback_fadeOut_last htb hd hidx hlast hb h a)

/-- R190: a pass from the start of its table to its end. -/
theorem plays_pass {b0 b1 : Byte} (htb : tableOf p = some tb) (hwf : wfTable (tableBytes s.cfg tb))
    (hb0 : memRead s.cfg tb 0 = some b0) (hb1 : memRead s.cfg tb (tableLen s.cfg tb - 1) = some b1)
    (hd : s.delay = 0#16) (hidx : s.idx = 0#16) (hf : s.fade = 0#8) :
    Plays p tb ((if fadeCond s.cfg p s.soundCount.toNat = true then b0.toNat else 1) +
      (tableLen s.cfg tb - 2) + b1.toNat) s (playedTo s (satW (tableLen s.cfg tb)) 0#8) := by
  obtain ⟨hmin, hmax⟩ := wfTable_tableLen hwf
  have hlen : 1 + (tableLen s.cfg tb - 2) = tableLen s.cfg tb - 1 := by omega
  have htop : (satW (tableLen s.cfg tb - 1)).toNat = tableLen s.cfg tb - 1 :=
    satW_toNat_of_le ((Nat.sub_le _ _).trans hmax)
  have hfirst := plays_first htb hwf hb0 hd hidx hf
  obtain ⟨a, hinner⟩ : ∃ a, Plays p tb (tableLen s.cfg tb - 2) (playedTo s 1#16 b0)
      (playedTo s (satW (tableLen s.cfg tb - 1)) a) := by
    rw [← hlen]
    exact plays_inner (s := playedTo s 1#16 b0) htb hmax hd le_rfl rfl
      (show 1 + (tableLen s.cfg tb - 2) < tableLen s.cfg tb by omega)
  have hlast : Plays p tb b1.toNat (playedTo s (satW (tableLen s.cfg tb - 1)) a)
      (playedTo s (satW (tableLen s.cfg tb)) 0#8) :=
    plays_last htb hwf (show (satW (tableLen s.cfg tb - 1)).toNat + 1 = tableLen s.cfg tb by omega)
      (by rw [← hb1]; exact congrArg (memRead s.cfg tb) htop) hd rfl
  exact (hfirst.trans hinner rfl rfl).trans hlast rfl rfl

end Pass

/-- Settles O52: the pass, the tick that ends it, and the pause that this tick loaded. -/
theorem passTakesItsLength : Obligations.PassTakesItsLength := by
  rintro p tb b0 b1 s htb hwf hb0 hb1 hd hidx hf k rfl
  have hpass := plays_pass htb hwf hb0 hb1 hd hidx hf
  obtain ⟨-, hlen⟩ := wfTable_tableLen hwf
  have hend : (playedTo s (satW (tableLen s.cfg tb)) 0#8).idx.toNat = tableLen s.cfg tb :=
    satW_toNat_of_le hlen
  refine ⟨hpass.inside, ⟨_, hpass.run, hend, rfl, rfl⟩, fun j hj => ?_⟩
  have hloaded := (playMany_succ_of hpass.run).trans (playback_of_end htb hd hend.ge)
  obtain ⟨d, hpause, hrun⟩ :=
    playMany_pause (s := endOfPass p (playedTo s (satW (tableLen s.cfg tb)) 0#8)) htb hj
  exact ⟨_, (playMany_add_of hloaded j).trans hrun, rfl, rfl, rfl, hpause, satW_toNat _⟩

end Sys2Proof.Machine

/-! Proofs about the operations of the external collaborators (spec/45_host_operations.md): what `RESET`
leaves (R200), and that a program may drop every `IDLE` (R201). -/

namespace Sys2Proof.Machine

/-! ## RESET -/

theorem exec_reset (s : State) : exec .reset s = .next (resetRegisters s) := by
  rfl

/-- Settles O14: the thirteen registers by the write of `RESET`, the model's own fields by its frame. -/
theorem resetClearsEveryRegister : Obligations.ResetClearsEveryRegister := by
  intro s
  rw [exec_reset, resetRegisters]

/-! ## The first operation of a run -/

theorem runOps_cons {i : Instr} {s t : State} (h : exec i s = .next t) (is : List Instr) :
    runOps (i :: is) s = runOps is t := by
  rw [runOps, h]

theorem traceOps_cons {i : Instr} {s t : State} (h : exec i s = .next t) (is : List Instr) :
    traceOps (i :: is) s = observe i t :: traceOps is t := by
  rw [traceOps, h]

/-! ## IDLE -/

theorem exec_idle (s : State) : exec .idle s = .next s := by
  rfl

/-- R95: `IDLE` shows no output pair. -/
theorem observe_idle_outputs (t : State) : (observe .idle t).outputs = none := by
  rfl

/-- R201: a dropped `IDLE` leaves the state of the operations after it as it was, and takes no output pair
from the trace. -/
theorem run_drop_idle (is : List Instr) (s : State) :
    runOps is s = runOps (is.filter fun i => decide (i ≠ .idle)) s ∧
    (traceOps is s).filterMap Observation.outputs =
      (traceOps (is.filter fun i => decide (i ≠ .idle)) s).filterMap Observation.outputs := by
  induction is generalizing s with
  | nil => exact ⟨rfl, rfl⟩
  | cons i is ih =>
    by_cases hi : i = .idle
    · subst hi
      rw [List.filter_cons_of_neg (by simp), runOps_cons (exec_idle s), traceOps_cons (exec_idle s),
        List.filterMap_cons_none (observe_idle_outputs s)]
      exact ih s
    · obtain ⟨t, ht⟩ := exists_exec_next i s
      obtain ⟨hrun, htrace⟩ := ih t
      rw [List.filter_cons_of_pos (by simpa using hi), runOps_cons ht, runOps_cons ht,
        traceOps_cons ht, traceOps_cons ht, List.filterMap_cons, List.filterMap_cons, htrace]
      exact ⟨hrun, rfl⟩

/-- Settles O16. -/
theorem idleIsIdentityAndDroppable : Obligations.IdleIsIdentityAndDroppable :=
  ⟨exec_idle, run_drop_idle⟩

end Sys2Proof.Machine

/-! Proofs about the exceptions (spec/60_exceptions.md): what the one fault condition of the block does to the
motor and the sound, and how it is left (R211). -/

namespace Sys2Proof.Machine

/-! ## A tick in SensorMissing -/

section Tick

variable {level : Bool} {s t : State}

/-- R131, R151: the ramp of a tick sees the event that the watch of the same tick wrote. -/
theorem tick_motorDuty_of_sensorMissing (h : tick level s = some t)
    (he : t.event = eventCode .sensorMissing) : t.motorDuty = 0#8 := by
  obtain ⟨w, hevent, -, -, -, hduty, -⟩ := tick_motor h
  rw [hduty, motorRamp_of_forced (.inr (.inl (hevent.trans he))), forceStop_motorDuty]

/-- R131, R165, R176: the selector of a tick sees that event too, and it has no phase. -/
theorem tick_amp_of_sensorMissing (h : tick level s = some t)
    (he : t.event = eventCode .sensorMissing) : t.amp = 0#8 := by
  refine tick_amp_of_phase_none h ?_
  rw [he]
  exact phase_of_silent_event (by simp) (by simp) (by simp) _ _

/-- R135, R211: the stop and the silence reach the outputs in the same tick. -/
theorem tick_stopped_of_sensorMissing (h : tick level s = some t)
    (he : t.event = eventCode .sensorMissing) :
    t.motorDuty = 0#8 ∧ t.amp = 0#8 ∧ t.motorPwm = 0#8 ∧ t.audioPwm = 0#8 := by
  have hduty := tick_motorDuty_of_sensorMissing h he
  have hamp := tick_amp_of_sensorMissing h he
  obtain ⟨hmotor, haudio⟩ := tick_outputsFresh h
  exact ⟨hduty, hamp, hmotor.trans hduty, haudio.trans hamp⟩

/-- R134: the watch acts in a run only, so a tick does not leave SensorMissing. -/
theorem tick_keeps_sensorMissing (h : tick level s = some t)
    (he : s.event = eventCode .sensorMissing) : t.event = eventCode .sensorMissing :=
  (tick_event_of_ne h (by simp [he])).trans he

end Tick

/-! ## The exits -/

/-- R113: outside a run, a Button1 press starts one. -/
theorem exec_press1_event_of_ne {s : State} (he : s.event ≠ eventCode .button1Pressed) :
    ∃ t, exec .press1 s = .next t ∧ t.event = eventCode .button1Pressed :=
  ⟨_, (exec_expand .press1 s).trans (button1PressStartsRun false false s rfl he), rfl⟩

/-- R117. -/
theorem exec_press2_event (s : State) :
    ∃ t, exec .press2 s = .next t ∧ t.event = eventCode .button2Pressed :=
  ⟨_, (exec_expand .press2 s).trans (button2PressClearsSoundCount false false s rfl), rfl⟩

/-- Settles O45: the later ticks are ticks that leave SensorMissing again, as a tick keeps it. -/
theorem sensorMissingStopsMotorAndSound : Obligations.SensorMissingStopsMotorAndSound := by
  constructor
  · intro level s
    obtain ⟨t, ht⟩ := exists_tick level s
    refine ⟨t, exec_tick_of_tick ht, fun he => ?_, tick_keeps_sensorMissing ht⟩
    obtain ⟨hduty, hamp, hmotor, haudio⟩ := tick_stopped_of_sensorMissing ht he
    obtain ⟨hen, -⟩ := tick_frame ht
    exact ⟨hduty, hamp, hmotor, haudio, hen⟩
  · intro s he
    exact ⟨exec_press1_event_of_ne (by simp [he]), exec_press2_event s,
      resetRegisters s, exec_reset s, rfl⟩

end Sys2Proof.Machine

/-! Proofs about the end of a run (spec/70_reset_and_hazards.md, R249): there is no halt operation, and a
step finds no stimulus word after the last one. -/

namespace Sys2Proof.Machine

/-- R249: with no word left, taking the next stimulus word answers by name that there is none. -/
theorem fetch_of_stimuli_nil {s : State} (hs : s.stimuli = []) : fetch s = .error .noStimulus := by
  simp only [fetch, hs]

/-- A word that cannot be taken is no step: the operations are not reached. -/
theorem step_of_fetch_error {s : State} {r : Refusal} (hf : fetch s = .error r) :
    step s = .refused r := by
  simp only [step, hf]

/-- Settles O9. -/
theorem stepWithoutStimulusRefused : Obligations.StepWithoutStimulusRefused :=
  fun _ hs => step_of_fetch_error (fetch_of_stimuli_nil hs)

end Sys2Proof.Machine
